-- ==== Sys2Proof/Word.lean ====
section
/-!
DEFINITION. Plain containers and words: bytes of the local port, raw results of the converter, and
eight-fold records indexed by a band position, a feeder number or an analog input.
-/

namespace Sys2Proof

/-- A byte on LD0 to LD7 (R183). -/
abbrev Byte := BitVec 8

/-- A raw result of the converter, 0 to 1023 (R63). -/
abbrev Raw := BitVec 10

/-- Eight like things: band positions 0 to 7 (R24), feeders F0 to F7 (R154), inputs AN0 to AN7 (R63). -/
structure Eight (α : Type) where
  e0 : α
  e1 : α
  e2 : α
  e3 : α
  e4 : α
  e5 : α
  e6 : α
  e7 : α
  deriving DecidableEq, Repr

/-- The eight indices in rising order. -/
def allEight : List (Fin 8) := [0, 1, 2, 3, 4, 5, 6, 7]

def Eight.get {α : Type} (v : Eight α) (i : Fin 8) : α :=
  match i with
  | 0 => v.e0
  | 1 => v.e1
  | 2 => v.e2
  | 3 => v.e3
  | 4 => v.e4
  | 5 => v.e5
  | 6 => v.e6
  | 7 => v.e7

def Eight.set {α : Type} (v : Eight α) (i : Fin 8) (a : α) : Eight α :=
  match i with
  | 0 => { v with e0 := a }
  | 1 => { v with e1 := a }
  | 2 => { v with e2 := a }
  | 3 => { v with e3 := a }
  | 4 => { v with e4 := a }
  | 5 => { v with e5 := a }
  | 6 => { v with e6 := a }
  | 7 => { v with e7 := a }

/-- Eight things given index by index. -/
def Eight.ofFn {α : Type} (f : Fin 8 → α) : Eight α :=
  ⟨f 0, f 1, f 2, f 3, f 4, f 5, f 6, f 7⟩

def Eight.all {α : Type} (a : α) : Eight α := ⟨a, a, a, a, a, a, a, a⟩

def Eight.map {α β : Type} (g : α → β) (v : Eight α) : Eight β :=
  ⟨g v.e0, g v.e1, g v.e2, g v.e3, g v.e4, g v.e5, g v.e6, g v.e7⟩

/-- The sum of eight quantities. -/
def Eight.sum (v : Eight Nat) : Nat :=
  v.e0 + v.e1 + v.e2 + v.e3 + v.e4 + v.e5 + v.e6 + v.e7

end Sys2Proof
end

