-- ==== Sys2Proof/Config.lean ====
section
/-!
DEFINITION. What the part fixes once for all: lengths of the round, of frames and of its queues. The
manual leaves no value of any command undefined, so there is no free value here.
-/

namespace Sys2Proof.Config

/-- Slots of a round (R24). -/
def slots : Nat := 290
/-- The last slot beat of a round, 3 × 290 − 1 (R6, R11). -/
def lastSlotBeat : Nat := 869
/-- Beats for which a starter asserts its start frame (R7). -/
def startBeats : Nat := 4
/-- The low run that is the PACE-D stuck-low fault (R19). -/
def stuckRun : Nat := 9
/-- High mid samples after which RESYNC reads the line idle (R15). -/
def idleSamples : Nat := 880
/-- Good rounds a CLASHED station waits (R38). -/
def backoffRounds : Nat := 16
/-- Notices the queue holds at most (R187). -/
def queueDepth : Nat := 32
/-- Entries the slate holds at most (R165). -/
def slateDepth : Nat := 12

end Sys2Proof.Config
end

