-- ==== Sys2Proof/Syntax.lean ====
section
/-!
DEFINITION. The commands and events of the JN412: one constructor for each row of spec/opcode_table.json,
with the operands the rules give it. A row that reads pins carries the levels at its instant (log 4).
-/

namespace Sys2Proof

/-- The straps read at the release of RESET (R192): STN0 to STN2 and ROLE0 to ROLE2. -/
structure Straps where
  stn : Fin 8
  role : BitVec 3
  deriving DecidableEq, Repr

/-- The levels at the input pins at one instant (R1, R63, R192, R194). AN5 to AN7 are in use in no
role and are never converted (R63). -/
structure Pins where
  /-- PB_SENSE reads high. -/
  pbHigh : Bool
  /-- PD_SENSE reads high. -/
  pdHigh : Bool
  /-- The BEAT strap: high selects LONG (R192). -/
  beatLong : Bool
  /-- E_CUT is asserted (R120). -/
  eCut : Bool
  /-- WAKE_IN is asserted (R177). -/
  wakeIn : Bool
  /-- RI0: FULL_IN at a STORE, ACK_IN at a CAB (R194). -/
  ri0 : Bool
  /-- RI1: LOWER_IN at a CAB (R194). -/
  ri1 : Bool
  /-- RI2: LAYOVER_IN at a CAB (R194). -/
  ri2 : Bool
  an0 : Raw
  an1 : Raw
  an2 : Raw
  an3 : Raw
  an4 : Raw
  deriving DecidableEq, Repr

/-- The sample points at which an asserted wire can read high (R20). -/
inductive PressPoint where
  /-- PACE-B at the end of the station's own low half. -/
  | paceB
  /-- PACE-D at the mid sample of a beat of an own start or stop frame. -/
  | paceDFrame
  /-- PACE-D at the end sample of a press beat in which the station pressed. -/
  | paceDPress
  deriving DecidableEq, Repr

/-- The two poles (R78). -/
inductive PoleName where
  | pos
  | neg
  deriving DecidableEq, Repr

/-- The five alarm kinds (R26). -/
inductive AlarmKind where
  | k0
  | k1
  | k2
  | k3
  | k4
  deriving DecidableEq, Repr

/-- The local-port commands that take parameters (R186). -/
inductive ParamCommand where
  | cfgWrite
  | demand
  | roleValue
  | feederMask
  | snapshot
  deriving DecidableEq, Repr

/-- The 54 commands and events of spec/opcode_table.json, in the table's order. -/
inductive Instr where
  | powerOn (st : Straps) (p : Pins)
  | lowHalfExpiry (p : Pins)
  | highHalfExpiry (p : Pins)
  | paceBStuckLow (p : Pins)
  | paceDStuckLow (p : Pins)
  | pressedButHigh (w : PressPoint) (p : Pins)
  | roundStart (p : Pins)
  | keepaliveExpiry
  | startFrameEvent (p : Pins)
  | clash (p : Pins)
  | stopFrameTest (p : Pins)
  | roundCompletion (p : Pins)
  | recoveryEnd (p : Pins)
  | roundDiscard (p : Pins)
  | resyncStopFrame (p : Pins)
  | resyncIdle (p : Pins)
  | groupAPassEnd (p : Pins)
  | slowPassStart (p : Pins)
  | slowPassEnd (p : Pins)
  | groupBPassEnd (p : Pins)
  | settleExpiry
  | rewireExpiry (w : PoleName)
  | gapAllowanceExpiry (w : PoleName)
  | arcCutMinExpiry
  | tripPulseExpiry
  | soundDelayExpiry (source : Fin 8) (kind : AlarmKind)
  | soundMinExpiry
  | eCutEdge (p : Pins)
  | fullInEdge (p : Pins)
  | ackInPress (p : Pins)
  | lowerInEdge (p : Pins)
  | layoverInEdge (p : Pins)
  | wakeInEdge (p : Pins)
  | lineWake (p : Pins)
  | cfgWrite (item : Byte) (value : BitVec 16)
  | cfgLock
  | demand (value : BitVec 16)
  | roleValue (value : BitVec 16)
  | feederMask (mask : Byte)
  | snapshot (item : Byte) (index : Byte)
  | notices
  | summary
  | stationReset (p : Pins)
  | wakeCommand (p : Pins)
  | commandIntake (c : ParamCommand)
  | unknownCommand (code : Byte)
  | parameterByteWrite (b : Byte)
  | statusRead
  | noticeRead
  | snapshotRead
  | summaryRead
  | beat (p : Pins)
  | midSample (p : Pins)
  | conversionEnd (p : Pins)
  deriving DecidableEq, Repr

/-- The codes of the local-port commands (R186). -/
def commandCodes : List Byte :=
  [0x10, 0x11, 0x20, 0x21, 0x22, 0x30, 0x31, 0x32, 0x40, 0x41]

end Sys2Proof
end

