-- ==== Sys2Proof/WellFormed.lean ====
section
/-!
DEFINITION. When a command's operands can belong to the event its row names: a row whose event shows a
level at a pin carries that level, and an unknown command byte is none of the codes of R186.
-/

namespace Sys2Proof

/-- The pin levels show the wire high that the sample point of a pressed-but-high fault reads (R20). -/
def PressPoint.seen (w : PressPoint) (p : Pins) : Bool :=
  match w with
  | .paceB => p.pbHigh
  | .paceDFrame => p.pdHigh
  | .paceDPress => p.pdHigh

/-- A command is well formed when its operands fit the event its row names. -/
def Instr.wellFormed (i : Instr) : Bool :=
  match i with
  | .powerOn _ _ => true
  | .lowHalfExpiry _ => true
  | .highHalfExpiry p => p.pbHigh
  | .paceBStuckLow p => !p.pbHigh
  | .paceDStuckLow p => !p.pdHigh
  | .pressedButHigh w p => w.seen p
  | .roundStart _ => true
  | .keepaliveExpiry => true
  | .startFrameEvent p => !p.pdHigh
  | .clash p => !p.pdHigh
  | .stopFrameTest _ => true
  | .roundCompletion p => p.pdHigh
  | .recoveryEnd _ => true
  | .roundDiscard _ => true
  | .resyncStopFrame p => p.pdHigh
  | .resyncIdle p => p.pdHigh
  | .groupAPassEnd _ => true
  | .slowPassStart _ => true
  | .slowPassEnd _ => true
  | .groupBPassEnd _ => true
  | .settleExpiry => true
  | .rewireExpiry _ => true
  | .gapAllowanceExpiry _ => true
  | .arcCutMinExpiry => true
  | .tripPulseExpiry => true
  | .soundDelayExpiry _ _ => true
  | .soundMinExpiry => true
  | .eCutEdge _ => true
  | .fullInEdge _ => true
  | .ackInPress p => p.ri0
  | .lowerInEdge _ => true
  | .layoverInEdge _ => true
  | .wakeInEdge p => p.wakeIn
  | .lineWake p => !p.pdHigh
  | .cfgWrite _ _ => true
  | .cfgLock => true
  | .demand _ => true
  | .roleValue _ => true
  | .feederMask _ => true
  | .snapshot _ _ => true
  | .notices => true
  | .summary => true
  | .stationReset _ => true
  | .wakeCommand _ => true
  | .commandIntake _ => true
  | .unknownCommand code => !commandCodes.contains code
  | .parameterByteWrite _ => true
  | .statusRead => true
  | .noticeRead => true
  | .snapshotRead => true
  | .summaryRead => true
  | .beat _ => true
  | .midSample _ => true
  | .conversionEnd _ => true

end Sys2Proof
end

