-- ==== Sys2Proof/Decode.lean ====
section
/-!
DEFINITION. The command a word spells by the bits of spec/opcode_table.json. No row of the table gives
any bits (every row's "fields" is empty and none has "fixed"), so no word spells a command. The codes of the
local-port commands (R186), which are data written at the port and no words of the table, stand here as well.
-/

namespace Sys2Proof

/-- No row of the table gives bits, so no word of any width spells a command. -/
def decodeTableWord (_nbits _w : Nat) : Option Instr := none

/-- The code of a command that takes parameters (R186). -/
def ParamCommand.code (c : ParamCommand) : Byte :=
  match c with
  | .cfgWrite => 0x10
  | .demand => 0x20
  | .roleValue => 0x21
  | .feederMask => 0x22
  | .snapshot => 0x30

/-- The row that the write of a command byte is, by the Code column of R186: the intake of a command with
parameters, a command without them at once, or an unknown command. -/
def commandByteRow (code : Byte) (p : Pins) : Instr :=
  match code.toNat with
  | 0x10 => .commandIntake .cfgWrite
  | 0x11 => .cfgLock
  | 0x20 => .commandIntake .demand
  | 0x21 => .commandIntake .roleValue
  | 0x22 => .commandIntake .feederMask
  | 0x30 => .commandIntake .snapshot
  | 0x31 => .notices
  | 0x32 => .summary
  | 0x40 => .stationReset p
  | 0x41 => .wakeCommand p
  | _ => .unknownCommand code

/-- The row that a port write is, by LA0: a command byte or a parameter byte (R183). -/
def portWriteRow (la0 : Bool) (b : Byte) (p : Pins) : Instr :=
  if la0 then commandByteRow b p else .parameterByteWrite b

end Sys2Proof
end

