-- ==== Sys2Proof/Machine/State.lean ====
section
/-!
DEFINITION. The state of one JN412, block by block, and its value right after reset. Every field cites
the rule that names it; a block that the strapped role does not have stays at its power-on value (log 7).
-/

namespace Sys2Proof.Machine

/-! ## Line engine (01, 02) -/

/-- The beat driver's five states (R2). -/
inductive Driver where
  | waitFall
  | lowHalf
  | waitRise
  | highHalf
  | stopped
  deriving DecidableEq, Repr

/-- The line phases (R6). -/
inductive Phase where
  | resync
  | idle
  | frame
  | slots
  | stop
  | recovery
  deriving DecidableEq, Repr

/-- The mode chosen by the last stop frame (R6, R13). -/
inductive Mode where
  | quiet
  | continuous
  deriving DecidableEq, Repr

/-- The join states (R35 to R39). -/
inductive JoinState where
  | listen
  | joining
  | joined
  | clashed
  | lineDown
  | asleep
  deriving DecidableEq, Repr

/-- The ten marks of a round, in slot order (R25). -/
structure Marks where
  drop : Bool
  gap : Bool
  offWire : Bool
  regenBar : Bool
  ack : Bool
  lower : Bool
  cut : Bool
  hold : Bool
  inrush : Bool
  layover : Bool
  deriving DecidableEq, Repr

/-- The empty mark set. -/
def Marks.empty : Marks := ⟨false, false, false, false, false, false, false, false, false, false⟩

/-- The five alarm bits of a band (R26). -/
structure Alarms where
  k0 : Bool
  k1 : Bool
  k2 : Bool
  k3 : Bool
  k4 : Bool
  deriving DecidableEq, Repr

def Alarms.none : Alarms := ⟨false, false, false, false, false⟩

/-- The band record (R26). -/
structure Band where
  present : Bool
  role : BitVec 3
  unsettled : Bool
  tier : BitVec 2
  claim : BitVec 10
  value : BitVec 10
  alarms : Alarms
  deriving DecidableEq, Repr

/-- The image latched for a round (R28). `sends` is cleared when the station stops sending (R37). -/
structure Image where
  sends : Bool
  marks : Marks
  key : BitVec 8
  count : BitVec 16
  band : Option Band
  deriving DecidableEq, Repr

/-- What a station that sends nothing has latched (R28). -/
def Image.empty : Image := ⟨false, Marks.empty, 0, 0, none⟩

/-- The line engine. -/
structure Line where
  /-- R2. -/
  driver : Driver
  /-- The BEAT strap as last read (R3). -/
  beatLong : Bool
  /-- PB_DRV (R1). -/
  pbDrv : Bool
  /-- PD_DRV (R1). -/
  pdDrv : Bool
  /-- PD_LIFT (R1). -/
  pdLift : Bool
  /-- The mid sample just taken read high (R7, R22). -/
  lastMidHigh : Bool
  phase : Phase
  mode : Mode
  /-- Low run, 0 to 9 (R6). -/
  lowRun : Nat
  /-- Consecutive high mid samples in RESYNC, 0 to 880 (R15). -/
  highRun : Nat
  /-- The low run under way after a line wake is being ignored (R182). -/
  ignoreRun : Bool
  /-- Slot beat count, 0 to 869 (R6). -/
  slotBeat : Nat
  /-- Beats of the own start or stop frame still asserted, this one included (R7, R11). -/
  driveLeft : Nat
  /-- The recovery beat running, 1 or 2; 0 when none (R14). -/
  recBeat : Nat
  /-- Discard count, 0 to 3 (R17). -/
  discards : Nat
  /-- Keepalive timer, ms left; none when stopped (R10). -/
  keepalive : Option Nat
  /-- The keepalive start reason waits (R9, R10). -/
  keepaliveDue : Bool
  /-- The wake start reason waits (R9). -/
  wakeDue : Bool
  /-- The station takes part in the round (R6). -/
  takesPart : Bool
  /-- The frame that formed was one it drove (R8). -/
  droveFrame : Bool
  image : Image
  /-- "Still sending" in the key field (R30, R31). -/
  keyIn : Bool
  /-- "Still sending" in the count field (R30, R32). -/
  countIn : Bool
  /-- Slot values read, slot s at bit 289 − s once all are read (R24). -/
  rx : BitVec 290
  /-- Own band clashed in this round (R37, R40). -/
  ownClashed : Bool
  /-- R29. -/
  lastBand : Option Band
  /-- R29. -/
  prevBand : Option Band
  /-- R29. -/
  lastMarks : Marks
  /-- Round count (R33). -/
  roundCount : BitVec 16
  join : JoinState
  /-- Heard count, 0 to 2 (R35). -/
  heard : Nat
  /-- Back-off count, 0 to 16 (R38). -/
  backoff : Nat
  /-- Layover count, 0 to 2 (R178). -/
  layoverCount : Nat
  /-- Layover read (R177). -/
  layoverRead : Bool
  deriving DecidableEq, Repr

/-! ## Peer view (03) -/

/-- The states of a peer entry (R43). -/
inductive EntryState where
  | absent
  | heardOnce
  | present
  | silent
  deriving DecidableEq, Repr

/-- A peer entry, in the order of R43's table. -/
structure PeerEntry where
  st : EntryState
  role : Nat
  tier : Nat
  unsettled : Bool
  alarms : Alarms
  lastClaim : Nat
  prevClaim : Option Nat
  lastValue : Nat
  prevValue : Option Nat
  claim : Nat
  value : Nat
  miss : Nat
  deriving DecidableEq, Repr

/-- A cleared entry (R43). -/
def PeerEntry.cleared : PeerEntry :=
  ⟨.absent, 0, 0, false, Alarms.none, 0, none, 0, none, 0, 0, 0⟩

/-- The peer view: entries and published conditions (R43, R58). -/
structure View where
  entries : Eight PeerEntry
  lineOff : Bool
  /-- The designated POLE (R54). -/
  pole : Option (Fin 8)
  u : Nat
  maxSpeed : Nat
  offerSum : Nat
  /-- The marks of the round of the latest view update; none after a clearing (R53, R174). -/
  latest : Option Marks
  deriving DecidableEq, Repr

/-- The view after a clearing (R61). -/
def View.cleared : View := ⟨Eight.all PeerEntry.cleared, true, none, 0, 0, 0, none⟩

/-! ## Scanner (04) -/

/-- Angle zones (R72). -/
inductive Zone where
  | stowed
  | work
  | high
  deriving DecidableEq, Repr

/-- A shoe's state and run count (R71). -/
structure Shoe where
  live : Bool
  run : Nat
  deriving DecidableEq, Repr

/-- A pole's angle zone and high reading flag (R72). -/
structure Angle where
  zone : Zone
  high : Bool
  deriving DecidableEq, Repr

/-- The channels that some role converts (R63). -/
inductive Channel where
  | an0
  | an1
  | an2
  | an3
  | an4
  deriving DecidableEq, Repr

/-- A conversion running: its channel and the value sampled at its start (R64). -/
structure Conv where
  ch : Channel
  raw : Raw
  deriving DecidableEq, Repr

/-- A channel result, in the order of R67's table. -/
structure ChanResult where
  raw : Raw
  value : Int
  atLimit : Bool
  unsettled : Bool
  pass : BitVec 16
  /-- LIVE is true; present in AN0 and AN1. -/
  shoe : Option Bool
  /-- Present in AN2 and AN3. -/
  zone : Option Zone
  /-- Present in AN0 and AN1. -/
  u : Option Nat
  deriving DecidableEq, Repr

/-- The working store of a group-A pass (R67). -/
structure Work where
  w0 : Raw
  w1 : Raw
  w2 : Raw
  w3 : Raw
  deriving DecidableEq, Repr

structure Scan where
  /-- The conversion running (R64). -/
  conv : Option Conv
  /-- The next group-A channel of the pass due (R64, R65). -/
  aNext : Option Channel
  work : Work
  /-- The group-B value captured and not yet converted (R64, R66). -/
  bHeld : Option Raw
  /-- A group-B pass has begun and not ended (R66). -/
  bRunning : Bool
  /-- A capture request waits (R66). -/
  bWaiting : Bool
  aCount : BitVec 16
  bCount : BitVec 16
  results : Eight ChanResult
  shoePos : Shoe
  shoeNeg : Shoe
  angPos : Angle
  angNeg : Angle
  /-- The line voltage of the latest pass (R73). -/
  u : Nat
  /-- Settle state: SETTLED is true (R75). -/
  settled : Bool
  /-- Settle timer, ms elapsed (R75). -/
  settleMs : Nat
  deriving DecidableEq, Repr

/-! ## Pole watch (05) -/

/-- Drop causes (R78). -/
inductive DropCause where
  | angle
  | timed
  deriving DecidableEq, Repr

/-- The pole states with the fields present in each (R78). -/
inductive PoleState where
  | lowered
  | seeking
  /-- With the rewire remaining, ms. -/
  | rewiring (left : Nat)
  | onWire
  /-- With the allowance granted and remaining, ms. -/
  | gap (granted left : Nat)
  | dropped (cause : DropCause)
  | retrieved (cause : DropCause)
  deriving DecidableEq, Repr

/-- A pole record (R78). -/
structure PoleRec where
  st : PoleState
  droppedOpen : Bool
  unacked : Bool
  ackable : Bool
  stamp : Nat
  deriving DecidableEq, Repr

structure PoleWatch where
  pos : PoleRec
  neg : PoleRec
  /-- ARC_CUT is ASSERTED (R101). -/
  arcCut : Bool
  /-- ARC_CUT minimum timer, ms left; none when expired or never started (R101). -/
  arcMin : Option Nat
  /-- Whole ms since the last assertion, up to 65535 (R103). -/
  arcMs : Nat
  /-- R80. -/
  lowerHeard : Bool
  /-- R80. -/
  heldSpeed : Nat
  /-- The allowance and rewire timers are paused (R105). -/
  paused : Bool
  deriving DecidableEq, Repr

/-! ## Budget unit (06) -/

/-- Evaluation kinds (R107). -/
inductive EvalKind where
  | none
  | view
  | limp
  deriving DecidableEq, Repr

structure Budget where
  kind : EvalKind
  stamp : Nat
  lineOffUsed : Bool
  uUsed : Nat
  lav : Nat
  offerUsed : Nat
  avail : Nat
  grants : Eight Nat
  remainder : Nat
  limp : Bool
  ownOverdraw : Bool
  overCount : Nat
  underCount : Nat
  /-- TRIP: its pulse timer in ms left while ASSERTED, none while RELEASED (R117). -/
  trip : Option Nat
  overCurrent : Nat
  cutHold : Nat
  lastI : Nat
  deriving DecidableEq, Repr

/-! ## Ceiling unit (07) -/

/-- Ceiling states (R126). -/
inductive CeilState where
  | heldZero
  | waiting
  | ramping
  | running
  deriving DecidableEq, Repr

structure Ceil where
  ceiling : Nat
  st : CeilState
  cutHeld : Bool
  limpCut : Bool
  /-- The REGEN_OK output of a DRIVE (R135). -/
  regenOk : Bool
  deriving DecidableEq, Repr

/-! ## Restart arbiter (08) -/

/-- The window fields present while HELD (R140). -/
structure Window where
  len : Nat
  left : Nat
  /-- The window feeder, at an AUX. -/
  feeder : Option (Fin 8)
  deriving DecidableEq, Repr

/-- The holder view (R140). -/
inductive Holder where
  | station (n : Fin 8)
  | self
  | free
  | notKnown
  deriving DecidableEq, Repr

structure Arbiter where
  /-- Rounds waited, 0 to 63 (R142). -/
  waited : Nat
  /-- The window: none is NONE (R140). -/
  window : Option Window
  holder : Holder
  deriving DecidableEq, Repr

/-! ## Feeder table (09) -/

/-- Feeder states (R154). -/
inductive FeederState where
  | off
  | waiting
  | inrush
  | on
  deriving DecidableEq, Repr

/-- A feeder record (R154); its nominal and inrush rounds are settings. -/
structure Feeder where
  enable : Bool
  st : FeederState
  stamp : Nat
  deriving DecidableEq, Repr

/-! ## Alarm slate (10) -/

/-- Slate entry states (R165). -/
inductive SlateState where
  | raised
  | acked
  | lapsed
  deriving DecidableEq, Repr

/-- A slate entry (R165). -/
structure SlateEntry where
  source : Fin 8
  kind : AlarmKind
  st : SlateState
  stamp : Nat
  rep : Nat
  /-- Sound delay remaining, ms; none when discarded or expired (R172). -/
  delay : Option Nat
  deriving DecidableEq, Repr

/-- Re-arm states of the acknowledge control (R170). -/
inductive Rearm where
  | armed
  | disarmed
  | releasing
  deriving DecidableEq, Repr

structure Slate where
  /-- Oldest first (R165). -/
  entries : List SlateEntry
  full : Bool
  /-- SOUNDER is ON (R172). -/
  sounder : Bool
  /-- SOUNDER minimum timer, ms left; none when expired or discarded (R172). -/
  minLeft : Option Nat
  /-- Whole ms SOUNDER has been ON, up to 65535 (R175). -/
  onMs : Nat
  ackPending : Bool
  rearm : Rearm
  deriving DecidableEq, Repr

/-! ## Layover (11) -/

/-- The wake detector (R180). -/
structure WakeDet where
  armed : Bool
  stowedPos : Bool
  stowedNeg : Bool
  deriving DecidableEq, Repr

/-! ## Local port and settings (12) -/

/-- Notice kinds (R187). -/
inductive NoticeKind where
  | grant
  | ceiling
  | pole
  | peer
  | line
  | feeder
  | slate
  | window
  deriving DecidableEq, Repr

/-- A notice (R187). -/
structure Notice where
  kind : NoticeKind
  subject : Nat
  value : Nat
  stamp : Nat
  deriving DecidableEq, Repr

/-- The settings of R193, in the order of its table. -/
structure Settings where
  tier : Nat
  iCap : Nat
  uFloor : Nat
  uKnee : Nat
  uRegen : Nat
  lineMargin : Nat
  ownMargin : Nat
  cutHold : Nat
  limpA : Nat
  sectionDm : Nat
  gapGuard : Nat
  shoeDead : Nat
  shoeLive : Nat
  angleStow : Nat
  angleHigh : Nat
  rewireMs : Nat
  arcCutMin : Nat
  potSpan : Nat
  currSpan : Nat
  settleMs : Nat
  riseStep : Nat
  rampWindow : Nat
  tripPulse : Nat
  nominal : Eight Nat
  inrush : Eight Nat
  quietMs : Nat
  soundDelay : Nat
  soundMin : Nat
  latchMask : Nat
  watermark : Nat
  deriving DecidableEq, Repr

/-- The defaults of R193. -/
def Settings.default : Settings where
  tier := 3
  iCap := 600
  uFloor := 400
  uKnee := 520
  uRegen := 720
  lineMargin := 40
  ownMargin := 20
  cutHold := 8
  limpA := 80
  sectionDm := 15
  gapGuard := 40
  shoeDead := 60
  shoeLive := 100
  angleStow := 8
  angleHigh := 62
  rewireMs := 200
  arcCutMin := 100
  potSpan := 1000
  currSpan := 1023
  settleMs := 64
  riseStep := 25
  rampWindow := 6
  tripPulse := 50
  nominal := Eight.all 0
  inrush := Eight.all 4
  quietMs := 40
  soundDelay := 300
  soundMin := 1000
  latchMask := 7
  watermark := 8

/-- The held command and its parameter bytes, in COLLECTING (R185). -/
structure Intake where
  cmd : ParamCommand
  held : List Byte
  deriving DecidableEq, Repr

/-- The read source of the port (R190, R191). -/
inductive ReadSource where
  | notices
  | snapshot
  | summary
  deriving DecidableEq, Repr

structure Port where
  /-- CD: the last port write was a command byte (R183, R184). -/
  cd : Bool
  /-- CMD_REFUSED (R184). -/
  refused : Bool
  /-- NOTICE_LOST (R184). -/
  lost : Bool
  /-- LINE_UP (R184). -/
  lineUp : Bool
  /-- CONFIG_LOCKED (R193). -/
  locked : Bool
  /-- none is IDLE (R185). -/
  intake : Option Intake
  /-- Oldest at the head (R187). -/
  queue : List Notice
  headLatched : Bool
  /-- Byte index, 0 to 5 (R188). -/
  byteIdx : Nat
  source : ReadSource
  snap : List Byte
  snapPtr : Nat
  /-- The copy of the summary word whose low byte is read next (R191). -/
  summaryLow : Option (BitVec 16)
  /-- The byte the latest read drove on LD0 to LD7 (R183). -/
  dataOut : Byte
  /-- The last DEMAND (R138). -/
  demand : Nat
  /-- The last ROLE_VALUE (R138). -/
  roleValue : Nat
  settings : Settings
  deriving DecidableEq, Repr

/-! ## The station -/

/-- One JN412 and the commands that wait for it. -/
structure State where
  straps : Straps
  pins : Pins
  line : Line
  view : View
  scan : Scan
  pole : PoleWatch
  budget : Budget
  ceil : Ceil
  arb : Arbiter
  feed : Eight Feeder
  slate : Slate
  wakeDet : WakeDet
  port : Port
  pending : List Instr
  deriving DecidableEq, Repr

/-- The reasons a command could stop the machine. The manual gives every command of the table an effect,
so there is none; no meaning raises a fault. -/
inductive Fault where
  deriving DecidableEq, Repr

/-- The reasons a command could be refused by the model. -/
inductive Refusal where
  /-- The row has no meaning in this model yet. Raised by no arm of exec; safe. -/
  | notModelled (mnemonic : String)
  deriving DecidableEq, Repr

/-! ## Reset -/

/-- Pins at reset: the wires idle high, every other input low (log 5). -/
def Pins.reset : Pins :=
  ⟨true, true, false, false, false, false, false, false, 0, 0, 0, 0, 0⟩

/-- R1, R4, R6, R29, R33, R39, R178. -/
def Line.reset : Line where
  driver := .highHalf
  beatLong := false
  pbDrv := false
  pdDrv := false
  pdLift := false
  lastMidHigh := false
  phase := .resync
  mode := .quiet
  lowRun := 0
  highRun := 0
  ignoreRun := false
  slotBeat := 0
  driveLeft := 0
  recBeat := 0
  discards := 0
  keepalive := some 40
  keepaliveDue := false
  wakeDue := false
  takesPart := false
  droveFrame := false
  image := Image.empty
  keyIn := false
  countIn := false
  rx := 0
  ownClashed := false
  lastBand := none
  prevBand := none
  lastMarks := Marks.empty
  roundCount := 0
  join := .listen
  heard := 0
  backoff := 0
  layoverCount := 0
  layoverRead := false

/-- A channel result at power-on: raw 0, value 0, at limit 0, unsettled 1, pass number 0 (R67). -/
def ChanResult.reset (shoe : Option Bool) (zone : Option Zone) (u : Option Nat) : ChanResult :=
  ⟨0, 0, false, true, 0, shoe, zone, u⟩

/-- R67, R77. -/
def Scan.reset : Scan where
  conv := none
  aNext := none
  work := ⟨0, 0, 0, 0⟩
  bHeld := none
  bRunning := false
  bWaiting := false
  aCount := 0
  bCount := 0
  results :=
    ⟨.reset (some false) none (some 0), .reset (some false) none (some 0),
     .reset none (some .stowed) none, .reset none (some .stowed) none,
     .reset none none none, .reset none none none, .reset none none none, .reset none none none⟩
  shoePos := ⟨false, 0⟩
  shoeNeg := ⟨false, 0⟩
  angPos := ⟨.stowed, false⟩
  angNeg := ⟨.stowed, false⟩
  u := 0
  settled := false
  settleMs := 0

/-- R78, R104. -/
def PoleWatch.reset : PoleWatch where
  pos := ⟨.lowered, false, false, false, 0⟩
  neg := ⟨.lowered, false, false, false, 0⟩
  arcCut := false
  arcMin := none
  arcMs := 0
  lowerHeard := false
  heldSpeed := 0
  paused := false

/-- R125. -/
def Budget.reset : Budget where
  kind := .none
  stamp := 0
  lineOffUsed := true
  uUsed := 0
  lav := 0
  offerUsed := 0
  avail := 0
  grants := Eight.all 0
  remainder := 0
  limp := false
  ownOverdraw := false
  overCount := 0
  underCount := 0
  trip := none
  overCurrent := 0
  cutHold := 0
  lastI := 0

/-- R139, with E_CUT released. -/
def Ceil.reset : Ceil := ⟨0, .heldZero, false, false, false⟩

/-- R153. -/
def Arbiter.reset : Arbiter := ⟨0, none, .free⟩

/-- R176. -/
def Slate.reset : Slate := ⟨[], false, false, none, 0, false, .armed⟩

/-- R183 to R191, R193, R138. -/
def Port.reset : Port where
  cd := false
  refused := false
  lost := false
  lineUp := false
  locked := false
  intake := none
  queue := []
  headLatched := false
  byteIdx := 0
  source := .notices
  snap := []
  snapPtr := 0
  summaryLow := none
  dataOut := 0
  demand := 0
  roleValue := 0
  settings := Settings.default

/-- The part right after reset, strapped and with inputs as log 5 says; a POWER_ON command gives any
other straps and inputs. -/
def State.reset : State where
  straps := ⟨0, 0⟩
  pins := Pins.reset
  line := Line.reset
  view := View.cleared
  scan := Scan.reset
  pole := PoleWatch.reset
  budget := Budget.reset
  ceil := Ceil.reset
  arb := Arbiter.reset
  feed := Eight.all ⟨false, .off, 0⟩
  slate := Slate.reset
  wakeDet := ⟨false, false, false⟩
  port := Port.reset
  pending := []

/-! ## Setters: one block replaced, the others kept -/

/-- The straps replaced. -/
def State.setStraps (s : State) (x : Straps) : State := { s with straps := x }

/-- The input pin levels replaced. -/
def State.setPins (s : State) (x : Pins) : State := { s with pins := x }

/-- The line engine replaced. -/
def State.setLine (s : State) (x : Line) : State := { s with line := x }

/-- The peer view replaced. -/
def State.setView (s : State) (x : View) : State := { s with view := x }

/-- The scanner replaced. -/
def State.setScan (s : State) (x : Scan) : State := { s with scan := x }

/-- The pole watch replaced. -/
def State.setPole (s : State) (x : PoleWatch) : State := { s with pole := x }

/-- The budget unit replaced. -/
def State.setBudget (s : State) (x : Budget) : State := { s with budget := x }

/-- The ceiling unit replaced. -/
def State.setCeil (s : State) (x : Ceil) : State := { s with ceil := x }

/-- The restart arbiter replaced. -/
def State.setArb (s : State) (x : Arbiter) : State := { s with arb := x }

/-- The feeder table replaced. -/
def State.setFeed (s : State) (x : Eight Feeder) : State := { s with feed := x }

/-- The alarm slate replaced. -/
def State.setSlate (s : State) (x : Slate) : State := { s with slate := x }

/-- The wake detector replaced. -/
def State.setWakeDet (s : State) (x : WakeDet) : State := { s with wakeDet := x }

/-- The local port replaced. -/
def State.setPort (s : State) (x : Port) : State := { s with port := x }

/-- The waiting commands replaced. -/
def State.setPending (s : State) (x : List Instr) : State := { s with pending := x }

end Sys2Proof.Machine
end

