-- ==== Sys2Proof/Machine/Ops.lean ====
section
/-!
DEFINITION. The operations every block shares: roles, codes, clamping, bytes, the notice queue, and
taking the input levels of a command.
-/

namespace Sys2Proof.Machine

/-! ## Roles (R192) -/

/-- The roles of R63's table; `unassigned` is a strap of 0, 6 or 7. -/
inductive Role where
  | unassigned
  | pole
  | drive
  | aux
  | store
  | cab
  deriving DecidableEq, Repr

def roleOfCode (c : BitVec 3) : Role :=
  match c.toNat with
  | 1 => .pole
  | 2 => .drive
  | 3 => .aux
  | 4 => .store
  | 5 => .cab
  | _ => .unassigned

/-- The strapped role (R192). -/
def State.role (s : State) : Role := roleOfCode s.straps.role

def State.isPole (s : State) : Bool := s.role == .pole
def State.isDrive (s : State) : Bool := s.role == .drive
def State.isAux (s : State) : Bool := s.role == .aux
def State.isStore (s : State) : Bool := s.role == .store
def State.isCab (s : State) : Bool := s.role == .cab

/-- The strapped role is 1 to 5 (R35, R184). -/
def State.roleAssigned (s : State) : Bool := s.role != .unassigned

/-- The ceiling unit is present: DRIVE or STORE (R126). -/
def State.hasCeiling (s : State) : Bool := s.isDrive || s.isStore

/-- Candidacy and window are present: DRIVE, AUX or STORE (R140). -/
def State.contends (s : State) : Bool := s.isDrive || s.isAux || s.isStore

/-- A role that uses AN4 (R63). -/
def State.usesGroupB (s : State) : Bool := s.isPole || s.contends

/-- JOINING or JOINED: the states that send (R25 to R32). -/
def JoinState.sending (j : JoinState) : Bool := j == .joining || j == .joined

/-- The own grant: the grant at the station's own position (R107). -/
def State.ownGrant (s : State) : Nat := s.budget.grants.get s.straps.stn

/-- The station's round count, as a stamp (R34). -/
def State.countStamp (s : State) : Nat := s.line.roundCount.toNat

/-! ## Numbers and bytes -/

/-- The nearest value to x within a to b (00, Conventions). -/
def clamp (a b x : Nat) : Nat := max a (min b x)

/-- The low three bits of a code or index, as an index of eight. -/
def eightOf (n : Nat) : Fin 8 := ⟨n % 8, Nat.mod_lt n (by decide)⟩

/-- A quantity in one byte (R190). -/
def byte1 (n : Nat) : List Byte := [BitVec.ofNat 8 n]

/-- A quantity in two bytes, high first (R190). -/
def byte2 (n : Nat) : List Byte := [BitVec.ofNat 8 (n / 256), BitVec.ofNat 8 n]

/-- Two bytes of a signed value in two's complement, high first (R190). -/
def byte2s (v : Int) : List Byte := byte2 (BitVec.ofInt 16 v).toNat

/-- A yes or no in one byte (R190). -/
def byteB (b : Bool) : List Byte := byte1 b.toNat

/-- A field present only in some states: 0 when absent (R190). -/
def orZero (o : Option Nat) : Nat := o.getD 0

/-- One millisecond more, up to 65535 (R103, R175). -/
def tickUp (n : Nat) : Nat := min 65535 (n + 1)

/-! ## Codes the manual gives -/

/-- R191. -/
def JoinState.code (j : JoinState) : Nat :=
  match j with
  | .listen => 0
  | .joining => 1
  | .joined => 2
  | .clashed => 3
  | .lineDown => 4
  | .asleep => 5

/-- R60. -/
def EntryState.code (e : EntryState) : Nat :=
  match e with
  | .absent => 0
  | .heardOnce => 1
  | .present => 2
  | .silent => 3

/-- R190. -/
def Zone.code (z : Zone) : Nat :=
  match z with
  | .stowed => 0
  | .work => 1
  | .high => 2

/-- R103. -/
def DropCause.code (c : DropCause) : Nat :=
  match c with
  | .angle => 1
  | .timed => 2

/-- R78. -/
def PoleState.code (p : PoleState) : Nat :=
  match p with
  | .lowered => 0
  | .seeking => 1
  | .rewiring _ => 2
  | .onWire => 3
  | .gap _ _ => 4
  | .dropped _ => 5
  | .retrieved _ => 6

/-- R190. -/
def EvalKind.code (k : EvalKind) : Nat :=
  match k with
  | .none => 0
  | .view => 1
  | .limp => 2

/-- R126. -/
def CeilState.code (c : CeilState) : Nat :=
  match c with
  | .heldZero => 0
  | .waiting => 1
  | .ramping => 2
  | .running => 3

/-- R140. -/
def Holder.code (h : Holder) : Nat :=
  match h with
  | .station n => n.val
  | .self => 8
  | .free => 9
  | .notKnown => 10

/-- R154. -/
def FeederState.code (f : FeederState) : Nat :=
  match f with
  | .off => 0
  | .waiting => 1
  | .inrush => 2
  | .on => 3

/-- R175. -/
def kindCode (k : AlarmKind) : Nat :=
  match k with
  | .k0 => 0
  | .k1 => 1
  | .k2 => 2
  | .k3 => 3
  | .k4 => 4

/-- R165. -/
def SlateState.code (x : SlateState) : Nat :=
  match x with
  | .raised => 0
  | .acked => 1
  | .lapsed => 2

/-- R187. -/
def NoticeKind.code (k : NoticeKind) : Nat :=
  match k with
  | .grant => 1
  | .ceiling => 2
  | .pole => 3
  | .peer => 4
  | .line => 5
  | .feeder => 6
  | .slate => 7
  | .window => 8

/-! ## The notice queue (R187) -/

/-- GRANT and CEILING notices coalesce (R113, R137, R187). -/
def NoticeKind.coalesces (k : NoticeKind) : Bool := k == .grant || k == .ceiling

/-- The notices that are not latched: only the head can be latched (R187, R188). -/
def Port.unlatched (p : Port) : List Notice := if p.headLatched then p.queue.drop 1 else p.queue

/-- The latched head, if any. -/
def Port.latchedHead (p : Port) : List Notice := if p.headLatched then p.queue.take 1 else []

/-- The first notice of the kind replaced in its place (R187). -/
def replaceKind (n : Notice) (q : List Notice) : List Notice :=
  match q with
  | [] => []
  | m :: r => if m.kind = n.kind then n :: r else m :: replaceKind n r

/-- A generated notice coalesced, appended, or dropped with NOTICE_LOST (R187). -/
def Port.enqueue (p : Port) (n : Notice) : Port :=
  if n.kind.coalesces && p.unlatched.any (fun m => m.kind == n.kind) then
    { p with queue := p.latchedHead ++ replaceKind n p.unlatched }
  else if p.queue.length < Config.queueDepth then { p with queue := p.queue ++ [n] }
  else { p with lost := true }

/-- A block generates a notice (R187). -/
def State.notify (s : State) (k : NoticeKind) (subject value stamp : Nat) : State :=
  s.setPort (s.port.enqueue ⟨k, subject, value, stamp⟩)

/-- Several notices of one kind and stamp, in order; each is a subject and a value. -/
def State.notifyAll (s : State) (k : NoticeKind) (stamp : Nat) (l : List (Nat × Nat)) : State :=
  match l with
  | [] => s
  | (a, v) :: r => (s.notify k a v stamp).notifyAll k stamp r

/-! ## Inputs -/

/-- The input levels of the command become the levels that its event reads (R194, log 4). -/
def State.sense (s : State) (p : Pins) : State := s.setPins p

/-- LINE_UP as the line engine sets and clears it (R184). -/
def State.setLineUp (s : State) (b : Bool) : State := s.setPort { s.port with lineUp := b }

/-- CMD_REFUSED is set (R185). -/
def State.refuse (s : State) : State := s.setPort { s.port with refused := true }

end Sys2Proof.Machine
end

