-- ==== Sys2Proof/Machine/Operands.lean ====
section
/-!
DEFINITION. The operand forms of the block: marks and bands as slot bits (R24 to R26), the key (R31), and
the settings by their codes with clamping and the pair rules (R193).
-/

namespace Sys2Proof.Machine

/-! ## Marks -/

/-- The mark of a slot of the mark field (R25). -/
def Marks.slot (m : Marks) (n : Nat) : Bool :=
  match n with
  | 0 => m.drop
  | 1 => m.gap
  | 2 => m.offWire
  | 3 => m.regenBar
  | 4 => m.ack
  | 5 => m.lower
  | 6 => m.cut
  | 7 => m.hold
  | 8 => m.inrush
  | 9 => m.layover
  | _ => false

/-- The mark field as read, slot 0 in the highest bit (R24, R25). -/
def marksOfBits (v : BitVec 10) : Marks where
  drop := v.getMsbD 0
  gap := v.getMsbD 1
  offWire := v.getMsbD 2
  regenBar := v.getMsbD 3
  ack := v.getMsbD 4
  lower := v.getMsbD 5
  cut := v.getMsbD 6
  hold := v.getMsbD 7
  inrush := v.getMsbD 8
  layover := v.getMsbD 9

/-! ## Bands -/

/-- The 32 slots of a band, slot 0 in the highest bit, each field MSB first (R26). -/
def Band.bits (b : Band) : BitVec 32 :=
  BitVec.ofBool b.present ++ b.role ++ BitVec.ofBool b.unsettled ++ b.tier ++ b.claim ++ b.value ++
    BitVec.ofBool b.alarms.k0 ++ BitVec.ofBool b.alarms.k1 ++ BitVec.ofBool b.alarms.k2 ++
    BitVec.ofBool b.alarms.k3 ++ BitVec.ofBool b.alarms.k4

/-- A band as read from its 32 slots (R26). -/
def bandOfBits (v : BitVec 32) : Band where
  present := v.getMsbD 0
  role := v.extractLsb' 28 3
  unsettled := v.getMsbD 4
  tier := v.extractLsb' 25 2
  claim := v.extractLsb' 15 10
  value := v.extractLsb' 5 10
  alarms := ⟨v.getMsbD 27, v.getMsbD 28, v.getMsbD 29, v.getMsbD 30, v.getMsbD 31⟩

/-! ## The slots of a round (R24) -/

/-- The slot beat count names this slot. -/
def slotOf (slotBeat : Nat) : Nat := slotBeat / 3

/-- The press beat is the first of a slot's three beats (R5). -/
def isPress (slotBeat : Nat) : Bool := slotBeat % 3 == 0

def inKeyField (slot : Nat) : Bool := 10 ≤ slot && slot < 18
def inCountField (slot : Nat) : Bool := 18 ≤ slot && slot < 34

/-- The slot lies in band n (R24). -/
def inBand (n : Nat) (slot : Nat) : Bool := 34 + 32 * n ≤ slot && slot < 66 + 32 * n

/-- The bit of the image at a slot, for station number n; a band slot of another station carries 0. -/
def Image.bitAt (im : Image) (n : Nat) (slot : Nat) : Bool :=
  if slot < 10 then im.marks.slot slot
  else if slot < 18 then im.key.getMsbD (slot - 10)
  else if slot < 34 then im.count.getMsbD (slot - 18)
  else if inBand n slot then
    match im.band with
    | some b => b.bits.getMsbD (slot - (34 + 32 * n))
    | none => false
  else false

/-- One more slot value read (R24): the values read move up by one bit. -/
def shiftIn (rx : BitVec 290) (b : Bool) : BitVec 290 := (rx <<< 1) ||| BitVec.setWidth 290 (BitVec.ofBool b)

/-- The mark field of the 290 slots read. -/
def rxMarks (rx : BitVec 290) : Marks := marksOfBits (rx.extractLsb' 280 10)
/-- The key field of the 290 slots read (R31). -/
def rxKey (rx : BitVec 290) : BitVec 8 := rx.extractLsb' 272 8
/-- The count field of the 290 slots read (R32). -/
def rxCount (rx : BitVec 290) : BitVec 16 := rx.extractLsb' 256 16
/-- Band n of the 290 slots read. -/
def rxBand (rx : BitVec 290) (n : Fin 8) : Band := bandOfBits (rx.extractLsb' (224 - 32 * n.val) 32)

/-- The restart key: tier, age, station number (R31, R142). -/
def makeKey (tier age : Nat) (stn : Fin 8) : BitVec 8 := BitVec.ofNat 8 (64 * tier + 8 * age + stn.val)

/-! ## Settings (R193) -/

/-- The value of the setting with this code; none for a code that names no setting (R193). -/
def Settings.get (t : Settings) (code : Nat) : Option Nat :=
  match code with
  | 1 => some t.tier
  | 2 => some t.iCap
  | 3 => some t.uFloor
  | 4 => some t.uKnee
  | 5 => some t.uRegen
  | 6 => some t.lineMargin
  | 7 => some t.ownMargin
  | 8 => some t.cutHold
  | 9 => some t.limpA
  | 16 => some t.sectionDm
  | 17 => some t.gapGuard
  | 18 => some t.shoeDead
  | 19 => some t.shoeLive
  | 20 => some t.angleStow
  | 21 => some t.angleHigh
  | 22 => some t.rewireMs
  | 23 => some t.arcCutMin
  | 32 => some t.potSpan
  | 33 => some t.currSpan
  | 34 => some t.settleMs
  | 40 => some t.riseStep
  | 41 => some t.rampWindow
  | 42 => some t.tripPulse
  | 64 => some t.quietMs
  | 72 => some t.soundDelay
  | 73 => some t.soundMin
  | 74 => some t.latchMask
  | 80 => some t.watermark
  | _ =>
    if 48 ≤ code && code < 56 then some (t.nominal.get (eightOf code))
    else if 56 ≤ code && code < 64 then some (t.inrush.get (eightOf code))
    else none

/-- The value of TIER written: 0 gives 1, 2 gives 3, and the range is 1 or 3 (R114). -/
def clampTier (v : Nat) : Nat := if v ≤ 1 then 1 else 3

/-- U_KNEE is raised to U_FLOOR + 1 if it is not above U_FLOOR (R114). -/
def Settings.pairU (t : Settings) : Settings := { t with uKnee := max t.uKnee (t.uFloor + 1) }
/-- SHOE_LIVE_V is raised above SHOE_DEAD_V (R71). -/
def Settings.pairShoe (t : Settings) : Settings := { t with shoeLive := max t.shoeLive (t.shoeDead + 1) }
/-- ANGLE_HIGH is raised above ANGLE_STOW (R72). -/
def Settings.pairAngle (t : Settings) : Settings := { t with angleHigh := max t.angleHigh (t.angleStow + 1) }

/-- The settings after a write of the code, clamped to its range and with its pair rule; none for a code
that names no setting (R193). -/
def Settings.put (t : Settings) (code v : Nat) : Option Settings :=
  match code with
  | 1 => some { t with tier := clampTier v }
  | 2 => some { t with iCap := clamp 1 1023 v }
  | 3 => some ({ t with uFloor := clamp 0 1022 v } : Settings).pairU
  | 4 => some ({ t with uKnee := clamp 1 1023 v } : Settings).pairU
  | 5 => some { t with uRegen := clamp 1 1023 v }
  | 6 => some { t with lineMargin := clamp 0 255 v }
  | 7 => some { t with ownMargin := clamp 0 255 v }
  | 8 => some { t with cutHold := clamp 1 63 v }
  | 9 => some { t with limpA := clamp 0 1023 v }
  | 16 => some { t with sectionDm := clamp 1 255 v }
  | 17 => some { t with gapGuard := clamp 0 255 v }
  | 18 => some ({ t with shoeDead := clamp 1 2046 v } : Settings).pairShoe
  | 19 => some ({ t with shoeLive := clamp 2 2047 v } : Settings).pairShoe
  | 20 => some ({ t with angleStow := clamp 0 88 v } : Settings).pairAngle
  | 21 => some ({ t with angleHigh := clamp 1 89 v } : Settings).pairAngle
  | 22 => some { t with rewireMs := clamp 10 1000 v }
  | 23 => some { t with arcCutMin := clamp 10 1000 v }
  | 32 => some { t with potSpan := clamp 100 2047 v }
  | 33 => some { t with currSpan := clamp 1 2047 v }
  | 34 => some { t with settleMs := clamp 8 255 v }
  | 40 => some { t with riseStep := clamp 1 255 v }
  | 41 => some { t with rampWindow := clamp 1 15 v }
  | 42 => some { t with tripPulse := clamp 10 255 v }
  | 64 => some { t with quietMs := clamp 10 250 v }
  | 72 => some { t with soundDelay := clamp 0 5000 v }
  | 73 => some { t with soundMin := clamp 0 10000 v }
  | 74 => some { t with latchMask := clamp 0 7 v }
  | 80 => some { t with watermark := clamp 1 32 v }
  | _ =>
    if 48 ≤ code && code < 56 then
      some { t with nominal := t.nominal.set (eightOf code) (clamp 0 255 v) }
    else if 56 ≤ code && code < 64 then
      some { t with inrush := t.inrush.set (eightOf code) (clamp 1 15 v) }
    else none

/-- The code names a NOMINAL_A (R159, R193). -/
def isNominalCode (code : Nat) : Bool := 48 ≤ code && code < 56

end Sys2Proof.Machine
end

