-- ==== Sys2Proof/Machine/Record.lean ====
section
/-!
DEFINITION. What one block hands another: the round record of R40 and the window event of R152.
-/

namespace Sys2Proof.Machine

/-- The round record of R40. -/
structure RoundRecord where
  number : BitVec 16
  marks : Marks
  keyRead : BitVec 8
  keySent : BitVec 8
  keyWon : Bool
  bands : Eight Band
  ownClashed : Bool
  asserted : Marks
  join : JoinState
  deriving DecidableEq, Repr

/-- The stamp of what a block does on a view update (R34). -/
def RoundRecord.stamp (r : RoundRecord) : Nat := r.number.toNat

/-- The window event the arbiter hands on at a view update (R130, R152, R158); at an AUX with the window
feeder. -/
inductive WindowEvent where
  | none
  | taken (feeder : Option (Fin 8))
  | held
  | ended (feeder : Option (Fin 8))
  | abandoned (feeder : Option (Fin 8))
  deriving DecidableEq, Repr

def WindowEvent.isTaken (e : WindowEvent) : Bool :=
  match e with
  | .taken _ => true
  | _ => false

def WindowEvent.isEnded (e : WindowEvent) : Bool :=
  match e with
  | .ended _ => true
  | _ => false

def WindowEvent.isAbandoned (e : WindowEvent) : Bool :=
  match e with
  | .abandoned _ => true
  | _ => false

/-- The round carried HOLD, CUT, OFF_WIRE or GAP (R145). -/
def Marks.abandons (m : Marks) : Bool := m.hold || m.cut || m.offWire || m.gap

/-- A clean round (R143). -/
def Marks.clean (m : Marks) : Bool := !m.inrush && !m.abandons

end Sys2Proof.Machine
end

