-- ==== Sys2Proof/Machine/Feeders.lean ====
section
/-!
DEFINITION. The feeder table of an AUX (09): energized sum, claim, moves, window events, shedding.
-/

namespace Sys2Proof.Machine

/-- In INRUSH or ON (R154). -/
def FeederState.energized (f : FeederState) : Bool := f == .inrush || f == .on

/-- The nominal of a feeder while it is energized, else 0. -/
def feederLoad (nom : Eight Nat) (f : Eight Feeder) (i : Fin 8) : Nat :=
  if (f.get i).st.energized then nom.get i else 0

/-- The energized sum (R154). -/
def energizedSum (nom : Eight Nat) (f : Eight Feeder) : Nat := (Eight.ofFn (feederLoad nom f)).sum

/-- The next feeder: the WAITING feeder of lowest index (R154). -/
def nextFeeder (f : Eight Feeder) : Option (Fin 8) := allEight.find? (fun i => (f.get i).st == .waiting)

def State.energizedSum (s : State) : Nat := Machine.energizedSum s.port.settings.nominal s.feed
def State.nextFeeder (s : State) : Option (Fin 8) := Machine.nextFeeder s.feed

/-- The AUX claim (R156). -/
def State.auxClaim (s : State) : Nat :=
  min 1023 (s.energizedSum +
    (match s.nextFeeder with
     | some i => s.port.settings.nominal.get i
     | none => 0))

/-- The feeder fits the own grant (R141). -/
def State.fits (s : State) (i : Fin 8) : Bool :=
  s.energizedSum + s.port.settings.nominal.get i ≤ s.ownGrant

/-- A record moves: its state and stamp change and a FEEDER notice is queued (R163). -/
def State.moveFeeder (s : State) (i : Fin 8) (dest : FeederState) (cause stamp : Nat) : State :=
  (s.setFeed (s.feed.set i { s.feed.get i with st := dest, stamp := stamp })).notify
    .feeder i.val (256 * cause + dest.code) stamp

/-- The feeder that is shed first: the one in INRUSH, else the ON feeder of highest index (R159, R161). -/
def shedTarget (f : Eight Feeder) : Option (Fin 8) :=
  match allEight.find? (fun i => (f.get i).st == .inrush) with
  | some i => some i
  | none => allEight.reverse.find? (fun i => (f.get i).st == .on)

/-- Shedding against a grant, at most `fuel` feeders; there are eight to shed (R159). -/
def State.shedLoop (fuel : Nat) (g stamp : Nat) (s : State) : State :=
  match fuel with
  | 0 => s
  | k + 1 =>
    if g < s.energizedSum then
      match shedTarget s.feed with
      | some i => State.shedLoop k g stamp (s.moveFeeder i .waiting 4 stamp)
      | none => s
    else s

/-- Shedding on the own grant at an AUX (R159). -/
def State.shedToGrant (s : State) (stamp : Nat) : State :=
  if s.isAux then s.shedLoop 8 s.ownGrant stamp else s

/-- Every energized feeder of the list moved to WAITING with one cause, in the list's order (R160, R164). -/
def State.deenergize (l : List (Fin 8)) (cause stamp : Nat) (s : State) : State :=
  match l with
  | [] => s
  | i :: r =>
    State.deenergize r cause stamp
      (if (s.feed.get i).st.energized then s.moveFeeder i .waiting cause stamp else s)

/-- The comfort cut: at a TIER 1 AUX every energized feeder goes to WAITING, F7 first (R160). -/
def State.comfortCut (s : State) (stamp : Nat) : State :=
  if s.isAux && s.port.settings.tier == 1 then s.deenergize allEight.reverse 5 stamp else s

/-- One feeder shed by an overdraw trip (R161). -/
def State.overdrawShed (s : State) (stamp : Nat) : State :=
  if s.isAux then
    match shedTarget s.feed with
    | some i => s.moveFeeder i .waiting 6 stamp
    | none => s
  else s

/-- The window feeder returns to WAITING at an abandonment or a drop, if it is in INRUSH (R158). -/
def State.feederBack (s : State) (i : Option (Fin 8)) (stamp : Nat) : State :=
  match i with
  | some n => if (s.feed.get n).st = .inrush then s.moveFeeder n .waiting 3 stamp else s
  | none => s

/-- The window event moves the window feeder (R158). -/
def State.feederWindow (s : State) (e : WindowEvent) (stamp : Nat) : State :=
  match e with
  | .none => s
  | .held => s
  | .taken (some n) => if (s.feed.get n).st = .waiting then s.moveFeeder n .inrush 1 stamp else s
  | .taken none => s
  | .ended (some n) => if (s.feed.get n).st = .inrush then s.moveFeeder n .on 2 stamp else s
  | .ended none => s
  | .abandoned n => s.feederBack n stamp

/-- The feeder table at a view update: window event, comfort cut, shedding; not while limp (R157). -/
def State.feederUpdate (s : State) (r : RoundRecord) (e : WindowEvent) : State :=
  if s.isAux && !s.budget.limp then
    let s1 := s.feederWindow e r.stamp
    let s2 := if r.marks.cut || s.pins.eCut then s1.comfortCut r.stamp else s1
    s2.shedToGrant r.stamp
  else s

/-- The limp restart: the next feeder goes straight to ON if it fits (R162), one of nominal 0 also on a grant of 0
(log 39). -/
def State.limpRestart (s : State) (stamp : Nat) : State :=
  if s.isAux then
    match s.nextFeeder with
    | some i => if s.fits i then s.moveFeeder i .on 7 stamp else s
    | none => s
  else s

/-- The table at a limp evaluation: it sheds, and restarts one feeder if the evaluation was made at a
start frame event (R162). -/
def State.feederLimp (s : State) (atStart : Bool) : State :=
  let s1 := s.shedToGrant s.countStamp
  if atStart then s1.limpRestart s.countStamp else s1

/-- Every feeder de-energized at station reset and at entry to ASLEEP, F7 first (R164). -/
def State.feederClear (s : State) : State :=
  if s.isAux then s.deenergize allEight.reverse 8 s.countStamp else s

end Sys2Proof.Machine
end

