-- ==== Sys2Proof/Machine/Budget.lean ====
section
/-!
DEFINITION. The budget unit's evaluations (06): availability, the tiered allocation, limp.
-/

namespace Sys2Proof.Machine

/-- Line availability Lav (R109). -/
def lineAvail (t : Settings) (lineOff : Bool) (u : Nat) : Nat :=
  if lineOff then 0
  else if u ≤ t.uFloor then 0
  else if t.uKnee ≤ u then t.iCap
  else t.iCap * (u - t.uFloor) / (t.uKnee - t.uFloor)

/-- The claims of the counting positions of a tier, 0 at the others (R111). -/
def tierClaims (es : Eight PeerEntry) (t : Nat) : Eight Nat :=
  es.map (fun e => if e.st ≠ .absent && e.tier == t then e.claim else 0)

/-- One tier served from the remaining availability r (R112). -/
def allotTier (r : Nat) (cs : Eight Nat) : Eight Nat :=
  if cs.sum ≤ r then cs else cs.map (fun c => r * c / cs.sum)

/-- The eight grants and the remainder from availability a, tier 3 first (R112). -/
def allot (a : Nat) (es : Eight PeerEntry) : Eight Nat × Nat :=
  let g3 := allotTier a (tierClaims es 3)
  let r3 := a - g3.sum
  let g2 := allotTier r3 (tierClaims es 2)
  let r2 := r3 - g2.sum
  let g1 := allotTier r2 (tierClaims es 1)
  (Eight.ofFn (fun i => g3.get i + g2.get i + g1.get i), r2 - g1.sum)

/-- A GRANT notice if the own grant differs from the one before the event (R113). -/
def State.grantNotice (s : State) (before subject stamp : Nat) : State :=
  if s.ownGrant = before then s else s.notify .grant subject s.ownGrant stamp

/-- The grant set of a VIEW evaluation (R108 to R112). -/
def Budget.viewEval (b : Budget) (t : Settings) (v : View) (stamp : Nat) : Budget :=
  let lav := lineAvail t v.lineOff v.u
  let a := lav + v.offerSum
  { b with
    kind := .view
    stamp := stamp
    lineOffUsed := v.lineOff
    uUsed := v.u
    lav := lav
    offerUsed := v.offerSum
    avail := a
    grants := (allot a v.entries).1
    remainder := (allot a v.entries).2
    limp := false }

/-- The budget unit at a view update: it evaluates when the update carries JOINING or JOINED (R108). -/
def State.budgetUpdate (s : State) (r : RoundRecord) : State :=
  if r.join.sending then
    (s.setBudget (s.budget.viewEval s.port.settings s.view r.stamp)).grantNotice s.ownGrant 0 r.stamp
  else s

/-- The own claim: the CLAIM the station would send (R27, R123). -/
def State.ownClaim (s : State) : Nat :=
  if s.hasCeiling then s.port.demand else if s.isAux then s.auxClaim else 0

/-- The own grant in limp (R123); 0 at a station strapped 0, 6 or 7, for which the table has no row (log 38). -/
def State.limpGrant (s : State) : Nat :=
  if s.hasCeiling || (s.isAux && s.port.settings.tier == 3) then min s.ownClaim s.port.settings.limpA
  else 0

/-- The grant set of a limp evaluation (R123). -/
def State.limpBudget (s : State) : Budget :=
  { s.budget with
    kind := .limp
    stamp := s.countStamp
    lineOffUsed := true
    uUsed := 0
    lav := 0
    offerUsed := 0
    avail := s.port.settings.limpA
    grants := (Eight.all 0).set s.straps.stn s.limpGrant
    remainder := s.port.settings.limpA - s.limpGrant }

/-- A limp evaluation and its GRANT notice (R123, R113). -/
def State.limpEvaluate (s : State) : State :=
  (s.setBudget s.limpBudget).grantNotice s.ownGrant 1 s.countStamp

/-- The grant set with nothing in force; the stamp of the last evaluation is left as it is (R107, R125, log 5). -/
def Budget.cleared (b : Budget) : Budget :=
  { b with
    kind := .none
    lineOffUsed := true
    uUsed := 0
    lav := 0
    offerUsed := 0
    avail := 0
    grants := Eight.all 0
    remainder := 0
    limp := false
    ownOverdraw := false
    overCount := 0
    underCount := 0
    overCurrent := 0
    cutHold := 0 }

/-! ## The measured current (R115 to R118) -/

/-- A group-B pass counts: settled, a grant set in force, the station awake (R115). -/
def State.passCounts (s : State) (unsettled : Bool) : Bool :=
  !unsettled && s.budget.kind != .none && s.line.join != .asleep

/-- Over and under counts moved by a counted current, before a count of 3 acts (R115). -/
def Budget.moveCounts (b : Budget) (margin g i : Nat) : Budget :=
  if g + margin < i then
    { b with overCount := if b.ownOverdraw then 0 else b.overCount + 1, underCount := 0 }
  else if g < i then { b with overCount := 0, underCount := 0 }
  else { b with overCount := 0, underCount := if b.ownOverdraw then min 3 (b.underCount + 1) else 0 }

/-- The budget's part of a trip: own overdraw, counts, and a TRIP pulse started (R116, R117). -/
def Budget.tripped (b : Budget) (pulse : Nat) : Budget :=
  { b with ownOverdraw := true, overCount := 0, trip := some pulse }

/-- An under count of 3 clears own overdraw (R116). -/
def Budget.backWithin (b : Budget) : Budget :=
  if b.underCount = 3 then { b with ownOverdraw := false, underCount := 0 } else b

/-- The vehicle overcurrent check of a counted current at the POLE (R118). -/
def Budget.vehicleCheck (b : Budget) (t : Settings) (i : Nat) : Budget :=
  if b.avail + t.lineMargin < i then
    if b.overCurrent + 1 < 3 then { b with overCurrent := b.overCurrent + 1 }
    else { b with overCurrent := 0, cutHold := t.cutHold }
  else { b with overCurrent := 0 }

end Sys2Proof.Machine
end

