-- ==== Sys2Proof/Machine/Ceiling.lean ====
section
/-!
DEFINITION. The ceiling unit of a DRIVE or STORE (07): the update cases, limp, causes between updates.
-/

namespace Sys2Proof.Machine

/-- WAITING if demand and grant are above 0, otherwise HELD_ZERO (R129). -/
def zeroState (d g : Nat) : CeilState := if 0 < d ∧ 0 < g then .waiting else .heldZero

/-- The cut case (R128, R129). -/
def Ceil.cutCase (c : Ceil) : Ceil := { c with ceiling := 0, st := .heldZero, cutHeld := true }

/-- The abandon and zero cases (R129). -/
def Ceil.zeroCase (c : Ceil) (d g : Nat) : Ceil :=
  { c with ceiling := 0, st := zeroState d g, cutHeld := false }

/-- The fall case (R129). -/
def Ceil.fallCase (c : Ceil) (d g : Nat) : Ceil :=
  { c with ceiling := g, st := if g = 0 then zeroState d g else c.st, cutHeld := false }

/-- The rise case (R129). -/
def Ceil.riseCase (c : Ceil) (g step : Nat) : Ceil :=
  { c with ceiling := min g (c.ceiling + step), cutHeld := false }

def CeilState.moving (x : CeilState) : Bool := x == .ramping || x == .running

/-- A take moves a WAITING record to RAMPING if demand and grant are above 0 (R129, R130). -/
def Ceil.takeMove (c : Ceil) (d g : Nat) (e : WindowEvent) : Ceil :=
  if e.isTaken ∧ c.st = .waiting ∧ 0 < d ∧ 0 < g then { c with st := .ramping } else c

/-- The first case that fits (R129). -/
def Ceil.fitCase (c : Ceil) (d g step : Nat) (cut : Bool) (e : WindowEvent) : Ceil :=
  if cut then c.cutCase
  else if e.isAbandoned then c.zeroCase d g
  else if g < c.ceiling then c.fallCase d g
  else if c.st.moving then c.riseCase g step
  else c.zeroCase d g

/-- A window ended at the update takes a RAMPING record to RUNNING, or off if the ceiling is 0 (R129). -/
def Ceil.endMove (c : Ceil) (d g : Nat) (e : WindowEvent) : Ceil :=
  if e.isEnded ∧ c.st = .ramping then
    { c with st := if 0 < c.ceiling then .running else zeroState d g }
  else c

/-- The ceiling record at a view update (R129). -/
def Ceil.act (c : Ceil) (d g step : Nat) (cut : Bool) (e : WindowEvent) : Ceil :=
  ((c.takeMove d g e).fitCase d g step cut e).endMove d g e

/-- The record at entry to limp (R133). -/
def Ceil.limpEntry (c : Ceil) (d g : Nat) (cut : Bool) : Ceil :=
  let c0 := { c with limpCut := false }
  if cut then c0.cutCase
  else
    match c0.st with
    | .ramping =>
      if min c0.ceiling g = 0 then { c0 with ceiling := 0, st := zeroState d g }
      else { c0 with ceiling := min c0.ceiling g, st := .running }
    | .running => if g < c0.ceiling then c0.fallCase d g else c0
    | .waiting => c0
    | .heldZero => c0

/-- The record at a later limp evaluation: R129's cases with the limp rise (R133). -/
def Ceil.limpAct (c : Ceil) (d g step : Nat) (cut : Bool) : Ceil :=
  if cut then c.cutCase
  else if c.ceiling = 0 ∧ 0 < d ∧ 0 < g then
    { c with ceiling := min g step, st := .running, cutHeld := false }
  else if g < c.ceiling then c.fallCase d g
  else if c.st.moving then c.riseCase g step
  else c.zeroCase d g

/-- The record replaced, with a CEILING notice if the ceiling or the state changed (R137). -/
def State.putCeil (s : State) (c : Ceil) (stamp : Nat) : State :=
  if c.ceiling = s.ceil.ceiling ∧ c.st = s.ceil.st then s.setCeil c
  else (s.setCeil c).notify .ceiling c.st.code c.ceiling stamp

/-- E_CUT asserted or own overdraw: the cut causes other than CUT read (R128). -/
def State.localCut (s : State) : Bool := s.pins.eCut || s.budget.ownOverdraw

/-- The ceiling unit at a view update; in limp only the CUT of the round acts (R129, R133). -/
def State.ceilingUpdate (s : State) (r : RoundRecord) (e : WindowEvent) : State :=
  if s.hasCeiling then
    if s.budget.limp then
      let c := { s.ceil with limpCut := r.marks.cut }
      s.putCeil (if r.marks.cut then c.cutCase else c) r.stamp
    else
      s.putCeil (s.ceil.act s.port.demand s.ownGrant s.port.settings.riseStep
        (r.marks.cut || s.localCut) e) r.stamp
  else s

/-- The ceiling unit at a limp evaluation made at a start frame event (R133). -/
def State.ceilingLimp (s : State) : State :=
  if s.hasCeiling then
    s.putCeil (s.ceil.limpAct s.port.demand s.ownGrant s.port.settings.riseStep
      (s.localCut || s.ceil.limpCut)) s.countStamp
  else s

/-- The ceiling unit at entry to LINE_DOWN or CLASHED (R133). -/
def State.ceilingLimpEntry (s : State) : State :=
  if s.hasCeiling then
    s.putCeil (s.ceil.limpEntry s.port.demand s.ownGrant s.localCut) s.countStamp
  else s

/-- An overdraw trip or an asserting edge of E_CUT takes the ceiling to 0 at once (R131). -/
def State.ceilingCutNow (s : State) : State :=
  if s.hasCeiling then s.putCeil s.ceil.cutCase s.countStamp else s

/-- A DEMAND command moves a WAITING or HELD_ZERO record (R132). -/
def Ceil.demandMove (c : Ceil) (d g : Nat) : Ceil :=
  if c.st = .waiting ∧ d = 0 then { c with st := .heldZero }
  else if c.st = .heldZero ∧ c.cutHeld = false ∧ 0 < d ∧ 0 < g then { c with st := .waiting }
  else c

/-- The record after station reset, entry to ASLEEP and wake: ceiling 0, HELD_ZERO, cut held at the
E_CUT level (R139). REGEN_OK is released. -/
def Ceil.clearedAt (eCut : Bool) : Ceil := ⟨0, .heldZero, eCut, false, false⟩

/-- Clearing of the record where the unit is present (R139). -/
def State.clearCeil (s : State) : State :=
  if s.hasCeiling then s.setCeil (Ceil.clearedAt s.pins.eCut) else s

/-- REGEN_OK at a view update of a DRIVE (R135). -/
def State.regenUpdate (s : State) (r : RoundRecord) : State :=
  if s.isDrive then s.setCeil { s.ceil with regenOk := !r.marks.regenBar && !s.view.lineOff } else s

end Sys2Proof.Machine
end

