-- ==== Sys2Proof/Machine/Restart.lean ====
section
/-!
DEFINITION. The restart arbiter (08): candidacy, the key, the window, the holder view.
-/

namespace Sys2Proof.Machine

/-- The role's own condition of candidacy (R141). -/
def State.candidateRole (s : State) : Bool :=
  if s.hasCeiling then s.ceil.st == .waiting
  else if s.isAux then
    match s.nextFeeder with
    | some i => s.fits i
    | none => false
  else false

/-- The station is a restart candidate (R141). -/
def State.candidate (s : State) : Bool :=
  s.line.join.sending && s.arb.window == none && s.candidateRole

/-- The tier in the key (R142). -/
def State.keyTier (s : State) : Nat :=
  match s.role with
  | .drive => 2
  | .store => 1
  | .aux => s.port.settings.tier
  | _ => 0

/-- Age: rounds waited in whole steps of 8, at most 7 (R142). -/
def keyAge (waited : Nat) : Nat := min 7 (waited / 8)

/-- The key the arbiter supplies at a start frame event (R142). -/
def State.keyNow (s : State) : BitVec 8 :=
  if s.candidate then makeKey s.keyTier (keyAge s.arb.waited) s.straps.stn else 0

/-- What the arbiter does on its own window at a view update (R144 to R147, R152 step 1): the window
after it, the event handed on, its notice, and the holder view it sets. -/
structure ArbAct where
  window : Option Window
  event : WindowEvent
  note : Option (Nat × Nat)
  holder : Option Holder
  deriving DecidableEq, Repr

/-- A held window at a view update (R145 to R147). -/
def heldAct (w : Window) (r : RoundRecord) : ArbAct :=
  if r.asserted.inrush then
    if r.marks.abandons then
      ⟨none, .abandoned w.feeder, some (2, 256 * (w.len - w.left + 1) + 9), some .free⟩
    else if 1 < w.left then ⟨some { w with left := w.left - 1 }, .held, none, none⟩
    else ⟨none, .ended w.feeder, some (1, 256 * w.len + 9), some .free⟩
  else ⟨some w, .held, none, none⟩

/-- A take of a window of `len` rounds (R144). -/
def takeAct (len : Nat) (f : Option (Fin 8)) : ArbAct :=
  ⟨some ⟨len, len, f⟩, .taken f, some (0, 256 * len + 8), some .self⟩

/-- An AUX declines a win (R144, R151). -/
def declineAct : ArbAct := ⟨none, .none, some (5, 9), some .free⟩

def noAct : ArbAct := ⟨none, .none, none, none⟩

/-- The conditions of a take other than the window being NONE (R144). -/
def State.mayTake (s : State) (r : RoundRecord) : Bool :=
  s.contends && r.keyWon && r.marks.clean && r.join.sending

/-- The win of a station with no window (R144). -/
def State.winAct (s : State) : ArbAct :=
  if s.isAux then
    match s.nextFeeder with
    | some i => if s.fits i then takeAct (s.port.settings.inrush.get i) (some i) else declineAct
    | none => declineAct
  else takeAct s.port.settings.rampWindow none

/-- The arbiter's act on its own window (R152 step 1). -/
def State.arbAct (s : State) (r : RoundRecord) : ArbAct :=
  match s.arb.window with
  | some w => heldAct w r
  | none => if s.mayTake r then s.winAct else noAct

/-- Rounds waited after a view update (R142). -/
def waitedAfter (waited : Nat) (took : Bool) (keySent : BitVec 8) : Nat :=
  if took then 0 else if keySent = 0 then waited else min 63 (waited + 1)

/-- The holder view set from the round (R150). -/
def holderOfRound (r : RoundRecord) (before : Holder) : Holder :=
  if r.marks.clean then
    if r.keyRead = 0 then .free else .station (eightOf r.keyRead.toNat)
  else if r.marks.abandons then .free
  else if before = .free then .notKnown
  else before

/-- Subject of a change of the holder view not caused by an own window event (R151). -/
def Holder.subject (h : Holder) : Nat :=
  match h with
  | .station _ => 6
  | .self => 6
  | .free => 7
  | .notKnown => 8

/-- The WINDOW notice of a view update (R151). -/
def State.windowNotice (s : State) (before : Holder) (note : Option (Nat × Nat)) (stamp : Nat) : State :=
  match note with
  | some (a, v) => s.notify .window a v stamp
  | none =>
    if s.arb.holder = before then s
    else s.notify .window s.arb.holder.subject s.arb.holder.code stamp

/-- The arbiter at a view update, steps 1 to 4 of R152; step 5 is `(s.arbAct r).event`. -/
def State.arbUpdate (s : State) (r : RoundRecord) : State :=
  let a := s.arbAct r
  (s.setArb
    { waited := waitedAfter s.arb.waited a.event.isTaken r.keySent
      window := a.window
      holder := a.holder.getD (holderOfRound r s.arb.holder) }).windowNotice s.arb.holder a.note r.stamp

/-- The window dropped: entry to LINE_DOWN, CLASHED or ASLEEP, and station reset (R149, R153). -/
def State.dropWindow (s : State) : State :=
  match s.arb.window with
  | some w =>
    ((s.setArb ⟨0, none, .free⟩).notify .window 3 (256 * (w.len - w.left) + 9) s.countStamp).feederBack
      w.feeder s.countStamp
  | none => s.setArb ⟨0, none, .free⟩

/-- The window ended by the disable of its feeder (R148). -/
def State.endByDisable (s : State) : State :=
  match s.arb.window with
  | some w =>
    (s.setArb { s.arb with window := none, holder := .free }).notify .window 4
      (256 * (w.len - w.left) + 9) s.countStamp
  | none => s

end Sys2Proof.Machine
end

