-- ==== Sys2Proof/Machine/Poles.lean ====
section
/-!
DEFINITION. Pole watch (05): the state tables, drops, ARC_CUT, the allowance, acknowledge and lowering.
-/

namespace Sys2Proof.Machine

def PoleState.isOnWire (p : PoleState) : Bool := p == .onWire

def PoleState.isGap (p : PoleState) : Bool :=
  match p with
  | .gap _ _ => true
  | _ => false

/-- LOWERED, SEEKING, REWIRING, DROPPED or RETRIEVED (R98). -/
def PoleState.isOff (p : PoleState) : Bool := !p.isOnWire && !p.isGap

/-- The gap allowance from SECTION_DM, GAP_GUARD_MS and the held speed (R93). -/
def gapAllowance (section_ guard speed : Nat) : Nat :=
  if speed = 0 then 1500 else clamp 20 1500 (3600 * section_ / speed + guard)

/-- The gap duration when a record leaves GAP, 0 from any other state (R86, R103). -/
def PoleState.gapDuration (p : PoleState) : Nat :=
  match p with
  | .gap g l => g - l
  | _ => 0

/-- The state after a pass end: the tables of R81 to R83, R85, R86, R89, R90. -/
def poleNext (p : PoleState) (z : Zone) (live lower : Bool) (rewire allowance : Nat) : PoleState :=
  match p with
  | .lowered =>
    match z with
    | .stowed => .lowered
    | .work => .seeking
    | .high => .dropped .angle
  | .seeking =>
    match z with
    | .stowed => .lowered
    | .work => if live then .rewiring rewire else .seeking
    | .high => .dropped .angle
  | .rewiring l =>
    match z with
    | .stowed => .lowered
    | .work => if live then .rewiring l else .seeking
    | .high => .dropped .angle
  | .onWire =>
    match z with
    | .stowed => if lower then .lowered else .dropped .angle
    | .work => if live then .onWire else if lower then .seeking else .gap allowance allowance
    | .high => .dropped .angle
  | .gap g l =>
    match z with
    | .stowed => if lower then .lowered else .dropped .angle
    | .work => if live then .onWire else if lower then .seeking else .gap g l
    | .high => .dropped .angle
  | .dropped c =>
    match z with
    | .stowed => .retrieved c
    | .work => if live then .rewiring rewire else .dropped c
    | .high => .dropped c
  | .retrieved c =>
    match z with
    | .stowed => if lower then .lowered else .retrieved c
    | .work => .seeking
    | .high => .dropped .angle

/-- The value of the notice of a state change (R103). -/
def poleNoticeValue (old new : PoleState) : Nat :=
  match new with
  | .lowered => 0
  | .seeking => old.gapDuration
  | .rewiring l => l
  | .onWire => old.gapDuration
  | .gap g _ => g
  | .dropped c => 256 * old.code + c.code
  | .retrieved c => 256 * 5 + c.code

/-- Subject offset of a pole: 0 POS, 16 NEG (R103). -/
def poleBase (w : PoleName) : Nat :=
  match w with
  | .pos => 0
  | .neg => 16

def PoleWatch.record (p : PoleWatch) (w : PoleName) : PoleRec :=
  match w with
  | .pos => p.pos
  | .neg => p.neg

def PoleWatch.setRec (p : PoleWatch) (w : PoleName) (x : PoleRec) : PoleWatch :=
  match w with
  | .pos => { p with pos := x }
  | .neg => { p with neg := x }

/-- The record in its new state, with the effects of a drop on its flags (R91). -/
def PoleRec.enter (x : PoleRec) (new : PoleState) (stamp : Nat) : PoleRec :=
  match new with
  | .dropped _ =>
    { x with st := new, droppedOpen := true, unacked := true, ackable := false, stamp := stamp }
  | _ => { x with st := new, stamp := stamp }

/-- ARC_CUT asserted at a drop, its minimum timer restarted (R101, R103). -/
def State.assertArcCut (s : State) (stamp : Nat) : State :=
  let p := { s.pole with arcMin := some s.port.settings.arcCutMin }
  if s.pole.arcCut then s.setPole p
  else (s.setPole { p with arcCut := true, arcMs := 0 }).notify .pole 32 0 stamp

/-- A record changes state: flags, stamp, notice, and ARC_CUT at a drop (R91, R103). -/
def State.movePole (s : State) (w : PoleName) (new : PoleState) (stamp : Nat) : State :=
  let old := (s.pole.record w).st
  let s1 := (s.setPole (s.pole.setRec w ((s.pole.record w).enter new stamp))).notify .pole
    (poleBase w + new.code) (poleNoticeValue old new) stamp
  match new with
  | .dropped _ => s1.assertArcCut stamp
  | _ => s1

/-- A dropped-open flag cleared; no notice of its own (R92). -/
def State.clearDroppedOpen (s : State) (w : PoleName) : State :=
  s.setPole (s.pole.setRec w { s.pole.record w with droppedOpen := false })

/-- ARC_CUT released once both flags are clear and the minimum timer has expired (R102, R103). -/
def State.releaseArcCut (s : State) (stamp : Nat) : State :=
  if s.pole.arcCut && !s.pole.pos.droppedOpen && !s.pole.neg.droppedOpen && s.pole.arcMin == none then
    (s.setPole { s.pole with arcCut := false }).notify .pole 33 s.pole.arcMs stamp
  else s

/-- One record evaluated at a settled pass end (R79 to R92). -/
def State.evalPole (s : State) (w : PoleName) (z : Zone) (live : Bool) : State :=
  let old := (s.pole.record w).st
  let new := poleNext old z live s.pole.lowerHeard s.port.settings.rewireMs
    (gapAllowance s.port.settings.sectionDm s.port.settings.gapGuard s.pole.heldSpeed)
  let s1 := if new = old then s else s.movePole w new s.countStamp
  if new = .lowered ∧ s.pole.lowerHeard = true then s1.clearDroppedOpen w else s1

/-- Pole watch at a group-A pass end delivered to it (R79); the first settled one after a wake lets the
paused timers run on (R105). A release of ARC_CUT is queued after both records' notices (log 42). -/
def State.polePass (s : State) : State :=
  if s.isPole && s.scan.settled then
    let s1 := s.setPole { s.pole with paused := false }
    let s2 := s1.evalPole .pos s.scan.angPos.zone s.scan.shoePos.live
    let s3 := s2.evalPole .neg s.scan.angNeg.zone s.scan.shoeNeg.live
    s3.releaseArcCut s.countStamp
  else s

/-- A GAP record becomes SEEKING at a view update that carried LOWER (R88). -/
def State.lowerGap (s : State) (w : PoleName) (stamp : Nat) : State :=
  if (s.pole.record w).st.isGap then s.movePole w .seeking stamp else s

/-- Unacked cleared in a record whose acknowledgeable flag is 1 (R96, R103). -/
def State.ackPole (s : State) (w : PoleName) (stamp : Nat) : State :=
  if (s.pole.record w).ackable && (s.pole.record w).unacked then
    (s.setPole (s.pole.setRec w { s.pole.record w with unacked := false })).notify .pole (poleBase w + 8) 0 stamp
  else s

/-- Pole watch at a view update: LOWER heard and held speed first (R80), then R88 while SETTLED and no longer
frozen by a layover (R104, R105), then the acknowledge (R96); POS before NEG at each (log 37). -/
def State.poleUpdate (s : State) (r : RoundRecord) : State :=
  if s.isPole then
    let s1 := s.setPole { s.pole with lowerHeard := r.marks.lower, heldSpeed := s.view.maxSpeed }
    let s2 := if r.marks.lower && s.scan.settled && !s.pole.paused then
        (s1.lowerGap .pos r.stamp).lowerGap .neg r.stamp
      else s1
    if r.marks.ack then (s2.ackPole .pos r.stamp).ackPole .neg r.stamp else s2
  else s

/-- Each acknowledgeable flag becomes the record's unacked flag at a start frame event (R95). -/
def State.poleStart (s : State) : State :=
  if s.isPole then
    s.setPole { s.pole with
      pos := { s.pole.pos with ackable := s.pole.pos.unacked }
      neg := { s.pole.neg with ackable := s.pole.neg.unacked } }
  else s

/-- Both acknowledgeable flags cleared: station reset and entry to ASLEEP (R95, R104). -/
def PoleWatch.clearAckable (p : PoleWatch) : PoleWatch :=
  { p with pos := { p.pos with ackable := false }, neg := { p.neg with ackable := false } }

/-- LOWER heard and held speed after a clearing of the peer view (R80). -/
def PoleWatch.clearHeard (p : PoleWatch) : PoleWatch := { p with lowerHeard := false, heldSpeed := 0 }

end Sys2Proof.Machine
end

