-- ==== Sys2Proof/Machine/Scanner.lean ====
section
/-!
DEFINITION. The scanner (04): scaling, decisions, the converter's choice, pass ends.
-/

namespace Sys2Proof.Machine

/-! ## Scaling (R68 to R70) -/

/-- The raw result is at an end of the scale. -/
def rawAtEnd (r : Raw) : Bool := r.toNat == 0 || r.toNat == 1023

/-- A bipolar channel in volts, truncated toward zero (R68). -/
def scaleShoe (span : Nat) (r : Raw) : Int := (((r.toNat : Int) - 512) * (span : Int)).tdiv 512

/-- A unipolar channel in amperes before the clamp (R69). -/
def currentRaw (span : Nat) (r : Raw) : Nat := r.toNat * span / 1024

/-- A unipolar channel in amperes (R69). -/
def scaleCurrent (span : Nat) (r : Raw) : Nat := min 1023 (currentRaw span r)

/-- The at limit field of a unipolar channel (R69). -/
def currentAtLimit (span : Nat) (r : Raw) : Bool := r.toNat == 1023 || 1023 < currentRaw span r

/-- An angle channel in whole degrees (R70). -/
def scaleAngle (r : Raw) : Nat := r.toNat * 90 / 1024

/-! ## Decisions at the POLE (R71 to R73) -/

/-- A shoe after a pass with this magnitude of V (R71). -/
def shoeNext (sh : Shoe) (dead live mag : Nat) : Shoe :=
  if sh.live then
    if mag < dead then
      if sh.run = 2 then ⟨false, 0⟩ else { sh with run := sh.run + 1 }
    else { sh with run := 0 }
  else
    if live ≤ mag then
      if sh.run = 2 then ⟨true, 0⟩ else { sh with run := sh.run + 1 }
    else { sh with run := 0 }

/-- A pole's angle zone after a pass with this angle (R72). -/
def angleNext (a : Angle) (stow high angle : Nat) : Angle :=
  if angle ≤ stow then ⟨.stowed, false⟩
  else if angle ≤ high then ⟨.work, false⟩
  else if a.high then ⟨.high, true⟩
  else { a with high := true }

/-- U of a pass from both shoes and both potentials (R73). -/
def passU (pos neg : Shoe) (vpos vneg : Int) : Nat :=
  if pos.live && neg.live then min 1023 (vpos - vneg).toNat else 0

/-! ## The converter (R64 to R66) -/

def pinRaw (p : Pins) (c : Channel) : Raw :=
  match c with
  | .an0 => p.an0
  | .an1 => p.an1
  | .an2 => p.an2
  | .an3 => p.an3
  | .an4 => p.an4

/-- The group-A channel after this one in the pass (R65). -/
def nextChannel (c : Channel) : Option Channel :=
  match c with
  | .an0 => some .an1
  | .an1 => some .an2
  | .an2 => some .an3
  | .an3 => none
  | .an4 => none

def isGroupA (c : Channel) : Bool := c != .an4

/-- The converter, if idle, begins its next conversion: a captured group-B value first, then the next
group-A channel due, sampled now (R64). -/
def Scan.choose (x : Scan) (p : Pins) : Scan :=
  match x.conv with
  | some _ => x
  | none =>
    match x.bHeld with
    | some r => { x with conv := some ⟨.an4, r⟩, bHeld := none }
    | none =>
      match x.aNext with
      | some c => { x with conv := some ⟨c, pinRaw p c⟩, aNext := nextChannel c }
      | none => x

/-- A group-A pass is in progress (R65). -/
def Scan.passRunning (x : Scan) : Bool :=
  x.aNext.isSome ||
    (match x.conv with
     | some c => isGroupA c.ch
     | none => false)

/-- A group-A pass begins with AN0 when none is in progress (R65, R77). -/
def Scan.startPass (x : Scan) (p : Pins) : Scan :=
  if x.passRunning then x else { x with aNext := some .an0 }.choose p

/-- The group-B capture of a start frame event (R66). -/
def Scan.capture (x : Scan) (p : Pins) : Scan :=
  if x.bRunning then { x with bWaiting := true }
  else { x with bHeld := some p.an4, bRunning := true }.choose p

/-- The scanner at a start frame event (R66). -/
def State.captureB (s : State) : State :=
  if s.usesGroupB then s.setScan (s.scan.capture s.pins) else s

def Work.set (w : Work) (c : Channel) (r : Raw) : Work :=
  match c with
  | .an0 => { w with w0 := r }
  | .an1 => { w with w1 := r }
  | .an2 => { w with w2 := r }
  | .an3 => { w with w3 := r }
  | .an4 => w

/-- The raw of a conversion in the working store, the converter free (R64, R67). -/
def Scan.store (x : Scan) (c : Conv) : Scan := { x with conv := none, work := x.work.set c.ch c.raw }

/-- The AN0 or AN1 result of a pass (R67, R68). -/
def shoeResult (span : Nat) (r : Raw) (unsettled : Bool) (pass : BitVec 16) (live : Bool) (u : Nat) :
    ChanResult :=
  ⟨r, scaleShoe span r, rawAtEnd r, unsettled, pass, some live, none, some u⟩

/-- The AN2 or AN3 result of a pass (R67, R70). -/
def angleResult (r : Raw) (unsettled : Bool) (pass : BitVec 16) (z : Zone) : ChanResult :=
  ⟨r, (scaleAngle r : Int), rawAtEnd r, unsettled, pass, none, some z, none⟩

/-- The AN4 result of a pass (R67, R69). -/
def currentResult (span : Nat) (r : Raw) (unsettled : Bool) (pass : BitVec 16) : ChanResult :=
  ⟨r, (scaleCurrent span r : Int), currentAtLimit span r, unsettled, pass, none, none, none⟩

/-- The angle part of a group-A pass end, made awake and asleep alike: counter, zones, AN2 and AN3 (R72,
R77). -/
def Scan.anglePass (x : Scan) (t : Settings) : Scan :=
  let n := x.aCount + 1
  let ap := angleNext x.angPos t.angleStow t.angleHigh (scaleAngle x.work.w2)
  let an := angleNext x.angNeg t.angleStow t.angleHigh (scaleAngle x.work.w3)
  { x with
    aCount := n
    angPos := ap
    angNeg := an
    results := (x.results.set 2 (angleResult x.work.w2 (!x.settled) n ap.zone)).set 3
      (angleResult x.work.w3 (!x.settled) n an.zone) }

/-- The shoe part of a group-A pass end of an awake station: shoes, U, AN0 and AN1 (R71, R73). The pass
counter is the one `anglePass` has advanced. -/
def Scan.shoePass (x : Scan) (t : Settings) : Scan :=
  let vp := scaleShoe t.potSpan x.work.w0
  let vn := scaleShoe t.potSpan x.work.w1
  let sp := shoeNext x.shoePos t.shoeDead t.shoeLive vp.natAbs
  let sn := shoeNext x.shoeNeg t.shoeDead t.shoeLive vn.natAbs
  let u := passU sp sn vp vn
  { x with
    shoePos := sp
    shoeNeg := sn
    u := u
    results := (x.results.set 0 (shoeResult t.potSpan x.work.w0 (!x.settled) x.aCount sp.live u)).set 1
      (shoeResult t.potSpan x.work.w1 (!x.settled) x.aCount sn.live u) }

/-- A group-A pass end of an awake station: results written, the next pass begun (R65, R67). -/
def Scan.passEnd (x : Scan) (t : Settings) (p : Pins) : Scan :=
  { (x.anglePass t).shoePass t with aNext := some .an0 }.choose p

/-- A slow pass end: only the angle part, and no next pass (R77). -/
def Scan.slowEnd (x : Scan) (t : Settings) (p : Pins) : Scan := (x.anglePass t).choose p

/-- A group-B pass end: the AN4 result, and the waiting capture request taken (R66, R67). -/
def Scan.passEndB (x : Scan) (t : Settings) (r : Raw) (p : Pins) : Scan :=
  let n := x.bCount + 1
  let y := { x with
    conv := none
    bCount := n
    bRunning := false
    results := x.results.set 4 (currentResult t.currSpan r (!x.settled) n) }
  if y.bWaiting then { y with bWaiting := false, bHeld := some p.an4, bRunning := true }.choose p
  else y.choose p

/-- The elapsed time reaches SETTLE_MS: SETTLED (R75). -/
def Scan.settle (x : Scan) (ms : Nat) : Scan := { x with settled := true, settleMs := max x.settleMs ms }

/-- The scanner at entry to ASLEEP: a waiting capture request is dropped (R77). -/
def Scan.sleep (x : Scan) : Scan := { x with bWaiting := false }

/-- The scanner's settling and run counts at a wake (R75, R77). -/
def Scan.wake (x : Scan) : Scan :=
  { x with
    settled := false
    settleMs := 0
    shoePos := { x.shoePos with run := 0 }
    shoeNeg := { x.shoeNeg with run := 0 } }

/-- The scanner at a wake: at the POLE group A returns to continuous passes (R65, R77). -/
def State.scanWake (s : State) : State :=
  if s.isPole then s.setScan (s.scan.wake.startPass s.pins) else s.setScan s.scan.wake

/-! ## The overdraw checks at a group-B pass end (R115 to R118) -/

/-- A trip of own overdraw: budget, then ceiling unit or feeder table (R116). -/
def State.trip (s : State) : State :=
  ((s.setBudget (s.budget.tripped s.port.settings.tripPulse)).ceilingCutNow).overdrawShed s.countStamp

/-- The checks on a counted current (R115, R116, R118). -/
def State.checkCurrent (s : State) (i : Nat) : State :=
  if s.isPole then
    s.setBudget { (s.budget.vehicleCheck s.port.settings i) with lastI := i }
  else if s.contends then
    let b := { (s.budget.moveCounts s.port.settings.ownMargin s.ownGrant i) with lastI := i }
    if b.overCount = 3 then (s.setBudget b).trip else s.setBudget b.backWithin
  else s

/-- The checks on the current of a group-B pass end; a pass that does not count leaves them (R115). -/
def State.overdrawCheck (s : State) (r : Raw) : State :=
  if s.passCounts (!s.scan.settled) then s.checkCurrent (scaleCurrent s.port.settings.currSpan r) else s

end Sys2Proof.Machine
end

