-- ==== Sys2Proof/Machine/SlateOps.lean ====
section
/-!
DEFINITION. The alarm slate of a CAB (10): level, acknowledge and creation steps, sounder and lamp.
-/

namespace Sys2Proof.Machine

def allKinds : List AlarmKind := [.k0, .k1, .k2, .k3, .k4]

def alarmBit (a : Alarms) (k : AlarmKind) : Bool :=
  match k with
  | .k0 => a.k0
  | .k1 => a.k1
  | .k2 => a.k2
  | .k3 => a.k3
  | .k4 => a.k4

/-- The condition of a position and kind: its alarm bit in the peer entry (R166). -/
def condition (es : Eight PeerEntry) (n : Fin 8) (k : AlarmKind) : Bool := alarmBit (es.get n).alarms k

/-- A kind is latched: K0 and K1 always, K2 to K4 by LATCH_MASK (R165). -/
def latched (mask : Nat) (k : AlarmKind) : Bool :=
  match k with
  | .k0 => true
  | .k1 => true
  | .k2 => mask.testBit 0
  | .k3 => mask.testBit 1
  | .k4 => mask.testBit 2

/-- The value of a SLATE notice about an entry (R175). -/
def SlateEntry.noticeValue (e : SlateEntry) : Nat := 256 * e.source.val + 16 * e.rep + kindCode e.kind

/-- A started sound delay; a delay of 0 calls at the event itself and is not kept (R172). -/
def startDelay (ms : Nat) : Option Nat := if ms = 0 then none else some ms

/-- One entry in the level step: what is left of it, and its notice (R167, R175). -/
def levelEntry (cond lat : Bool) (delay : Nat) (e : SlateEntry) : Option SlateEntry × List (Nat × Nat) :=
  match e.st with
  | .raised =>
    if cond then (some e, [])
    else if lat then
      let e' := { e with st := .lapsed, delay := none }
      (some e', [(2, e'.noticeValue)])
    else (none, [(4, e.noticeValue)])
  | .acked => if cond then (some e, []) else (none, [(4, e.noticeValue)])
  | .lapsed =>
    if cond then
      let e' := { e with st := .raised, rep := min 15 (e.rep + 1), delay := startDelay delay }
      (some e', [(1, e'.noticeValue)])
    else (some e, [])

/-- One entry in the acknowledge step (R168, R175). -/
def ackEntry (e : SlateEntry) : Option SlateEntry × List (Nat × Nat) :=
  match e.st with
  | .raised =>
    let e' := { e with st := .acked, delay := none }
    (some e', [(3, e'.noticeValue)])
  | .lapsed => (none, [(4, e.noticeValue)])
  | .acked => (some e, [])

/-- A step over the slate in its order: the entries left and the notices. -/
def slateStep (f : SlateEntry → Option SlateEntry × List (Nat × Nat)) (l : List SlateEntry) :
    List SlateEntry × List (Nat × Nat) :=
  match l with
  | [] => ([], [])
  | e :: r =>
    let t := slateStep f r
    match (f e).1 with
    | some e' => (e' :: t.1, (f e).2 ++ t.2)
    | none => (t.1, (f e).2 ++ t.2)

/-- The slate holds an entry for the condition. -/
def hasEntry (l : List SlateEntry) (n : Fin 8) (k : AlarmKind) : Bool :=
  l.any (fun e => e.source == n && e.kind == k)

/-- All pairs of position and kind, by position and then by kind (R169). -/
def allPairs : List (Fin 8 × AlarmKind) := allEight.flatMap (fun n => allKinds.map (fun k => (n, k)))

/-- The conditions without an entry, in the order of the creation step (R169). -/
def missing (es : Eight PeerEntry) (l : List SlateEntry) : List (Fin 8 × AlarmKind) :=
  allPairs.filter (fun c => condition es c.1 c.2 && !hasEntry l c.1 c.2)

/-- A new entry (R169). -/
def newEntry (c : Fin 8 × AlarmKind) (stamp delay : Nat) : SlateEntry :=
  ⟨c.1, c.2, .raised, stamp, 0, startDelay delay⟩

/-- The entries made in the creation step: as many as there is room for (R169). -/
def created (es : Eight PeerEntry) (l : List SlateEntry) (stamp delay : Nat) : List SlateEntry :=
  ((missing es l).take (Config.slateDepth - l.length)).map (fun c => newEntry c stamp delay)

/-- How many conditions the creation step leaves without an entry (R169, R175). -/
def leftOut (es : Eight PeerEntry) (l : List SlateEntry) : Nat :=
  (missing es l).length - (Config.slateDepth - l.length)

def anyRaised (l : List SlateEntry) : Bool := l.any (fun e => e.st == .raised)

/-- SOUNDER becomes ON if it is OFF, its minimum timer started; a minimum of 0 has expired (R172, R175). -/
def State.sounderOn (s : State) (stamp : Nat) : State :=
  if s.slate.sounder then s
  else
    (s.setSlate { s.slate with
      sounder := true, onMs := 0, minLeft := startDelay s.port.settings.soundMin }).notify .slate 7 0 stamp

/-- SOUNDER becomes OFF when no entry is RAISED, the slate is not full and the minimum has expired (R172). -/
def State.sounderOffCheck (s : State) (stamp : Nat) : State :=
  if s.slate.sounder && !anyRaised s.slate.entries && !s.slate.full && s.slate.minLeft == none then
    (s.setSlate { s.slate with sounder := false }).notify .slate 8 s.slate.onMs stamp
  else s

/-- The notice of a change of the slate-full flag (R175). -/
def fullNotice (before : Bool) (left : Nat) : List (Nat × Nat) :=
  if 0 < left then (if before then [] else [(5, left)]) else (if before then [(6, 0)] else [])

/-- A view update finds ACK_IN released in RELEASING: ARMED (R170). -/
def Slate.rearmUpdate (x : Slate) (ackIn : Bool) : Slate :=
  if x.rearm = .releasing ∧ ackIn = false then { x with rearm := .armed } else x

/-- A start frame event finds ACK_IN released in DISARMED: RELEASING (R170). -/
def Slate.rearmStart (x : Slate) (ackIn : Bool) : Slate :=
  if x.rearm = .disarmed ∧ ackIn = false then { x with rearm := .releasing } else x

/-- The entries after the level step, with its notices (R167). -/
def State.slateLevel (s : State) : List SlateEntry × List (Nat × Nat) :=
  slateStep (fun e => levelEntry (condition s.view.entries e.source e.kind)
    (latched s.port.settings.latchMask e.kind) s.port.settings.soundDelay e) s.slate.entries

/-- The entries after the acknowledge step, taken only if the round carried ACK (R168). -/
def slateAck (ack : Bool) (l : List SlateEntry) : List SlateEntry × List (Nat × Nat) :=
  if ack then slateStep ackEntry l else (l, [])

/-- The slate at a view update: level, acknowledge, creation, slate-full, sounder (R167 to R169, R172,
R175); and the re-arm of the acknowledge (R170). -/
def State.slateUpdate (s : State) (r : RoundRecord) : State :=
  if s.isCab then
    let lv := s.slateLevel
    let ak := slateAck r.marks.ack lv.1
    let new := created s.view.entries ak.1 r.stamp s.port.settings.soundDelay
    let left := leftOut s.view.entries ak.1
    let x := { s.slate with entries := ak.1 ++ new, full := decide (0 < left) }
    let notes := lv.2 ++ ak.2 ++ new.map (fun e => (0, e.noticeValue)) ++ fullNotice s.slate.full left
    let calls := s.port.settings.soundDelay == 0 && (!new.isEmpty || lv.2.any (fun n => n.1 == 1))
    let s1 := (s.setSlate (x.rearmUpdate s.pins.ri0)).notifyAll .slate r.stamp notes
    let s2 := if x.full || calls then s1.sounderOn r.stamp else s1
    s2.sounderOffCheck r.stamp
  else s

/-- The slate's part of a start frame event: a latched ACK is no longer pending (R171), and the re-arm
state (R170). -/
def State.slateStart (s : State) : State :=
  if s.isCab then
    s.setSlate { (s.slate.rearmStart s.pins.ri0) with
      ackPending := s.slate.ackPending && !s.line.join.sending }
  else s

/-- The sound delays of RAISED entries set: discarded at entry to ASLEEP, started at a wake (R176). -/
def setDelays (d : Option Nat) (l : List SlateEntry) : List SlateEntry :=
  l.map (fun e => if e.st = .raised then { e with delay := d } else e)

/-- The slate at entry to ASLEEP (R176): SOUNDER goes OFF whatever the flag. -/
def State.slateSleep (s : State) : State :=
  if s.isCab then
    let x := { s.slate with
      entries := setDelays none s.slate.entries
      sounder := false
      minLeft := none
      ackPending := false
      rearm := .armed }
    if s.slate.sounder then (s.setSlate x).notify .slate 8 s.slate.onMs s.countStamp else s.setSlate x
  else s

/-- The slate at a wake (R176): delays started, SOUNDER follows the slate-full flag. -/
def State.slateWake (s : State) : State :=
  if s.isCab then
    let s1 := s.setSlate { s.slate with
      entries := setDelays (some s.port.settings.soundDelay) s.slate.entries
      ackPending := false
      rearm := .armed }
    if s.slate.full then s1.sounderOn s1.countStamp else s1
  else s

/-- The slate at a station reset (R176). -/
def State.slateReset (s : State) : State :=
  s.setSlate { s.slate with ackPending := false, rearm := .armed }

end Sys2Proof.Machine
end

