-- ==== Sys2Proof/Machine/PeerView.lean ====
section
/-!
DEFINITION. The peer view (03): hearing, entry moves, adoption, published conditions, clearing.
-/

namespace Sys2Proof.Machine

/-- The band is heard: PRESENT 1 and a ROLE of 1 to 5 (R45). -/
def Band.heard (b : Band) : Bool := b.present && decide (1 ≤ b.role.toNat) && decide (b.role.toNat ≤ 5)

/-- The role code is POLE or STORE: its role value is adopted downward (R50). -/
def adoptsSmaller (role : Nat) : Bool := role == 1 || role == 4

/-- The adopted role value of a first hearing (R49, R50). -/
def firstValue (role v : Nat) : Nat := if adoptsSmaller role then 0 else v

/-- The adopted role value of a later hearing (R49, R50). -/
def laterValue (role prev last : Nat) : Nat := if adoptsSmaller role then min prev last else max prev last

/-- An entry started from a first hearing (R46, R48). -/
def firstHearing (b : Band) : PeerEntry where
  st := .heardOnce
  role := b.role.toNat
  tier := b.tier.toNat
  unsettled := b.unsettled
  alarms := b.alarms
  lastClaim := b.claim.toNat
  prevClaim := none
  lastValue := b.value.toNat
  prevValue := none
  claim := b.claim.toNat
  value := firstValue b.role.toNat b.value.toNat
  miss := 0

/-- An entry heard again with the role it holds (R46, R48 to R51). -/
def PeerEntry.laterHearing (e : PeerEntry) (b : Band) : PeerEntry where
  st := .present
  role := b.role.toNat
  tier := b.tier.toNat
  unsettled := b.unsettled
  alarms := b.alarms
  lastClaim := b.claim.toNat
  prevClaim := some e.lastClaim
  lastValue := b.value.toNat
  prevValue := some e.lastValue
  claim := max e.lastClaim b.claim.toNat
  value := laterValue b.role.toNat e.lastValue b.value.toNat
  miss := 0

/-- An entry whose position is heard (R46). -/
def PeerEntry.hear (e : PeerEntry) (b : Band) : PeerEntry :=
  match e.st with
  | .absent => firstHearing b
  | .silent => firstHearing b
  | .heardOnce => if e.role = b.role.toNat then e.laterHearing b else firstHearing b
  | .present => if e.role = b.role.toNat then e.laterHearing b else firstHearing b

/-- An entry whose position is not heard in a good round (R47). -/
def PeerEntry.notHeard (e : PeerEntry) : PeerEntry :=
  match e.st with
  | .absent => e
  | .heardOnce => PeerEntry.cleared
  | .present => if e.miss < 2 then { e with miss := e.miss + 1 } else { e with st := .silent, miss := 3 }
  | .silent => e

/-- An entry after a round record (R44 to R52). -/
def PeerEntry.absorb (e : PeerEntry) (b : Band) : PeerEntry := if b.heard then e.hear b else e.notHeard

/-- The eight entries after a round record. -/
def absorbEntries (es : Eight PeerEntry) (bands : Eight Band) : Eight PeerEntry :=
  Eight.ofFn (fun i => (es.get i).absorb (bands.get i))

/-! ## Published conditions -/

/-- The designated POLE (R54). -/
def designatedPole (es : Eight PeerEntry) : Option (Fin 8) :=
  allEight.find? (fun i => (es.get i).st == .present && (es.get i).role == 1)

/-- Line-off (R55). -/
def lineOffOf (m : Marks) (es : Eight PeerEntry) (pole : Option (Fin 8)) : Bool :=
  m.offWire || m.gap ||
    (match pole with
     | some i => (es.get i).unsettled
     | none => true)

/-- U (R56). -/
def publishedU (es : Eight PeerEntry) (pole : Option (Fin 8)) : Nat :=
  match pole with
  | some i => (es.get i).value
  | none => 0

/-- The speed an entry counts with in the maximum speed (R57). -/
def speedOf (e : PeerEntry) : Nat :=
  if e.role = 2 ∧ (e.st = .present ∨ e.st = .heardOnce) then e.value else 0

/-- The offer an entry counts with in the offer sum (R57). -/
def offerOf (e : PeerEntry) : Nat := if e.role = 4 ∧ e.st = .present then e.value else 0

/-- The greatest of eight quantities. -/
def eightMax (v : Eight Nat) : Nat :=
  max v.e0 (max v.e1 (max v.e2 (max v.e3 (max v.e4 (max v.e5 (max v.e6 v.e7))))))

/-- The view after a round record (R44, R54 to R58). -/
def View.absorb (v : View) (r : RoundRecord) : View :=
  let es := absorbEntries v.entries r.bands
  let pole := designatedPole es
  { entries := es
    lineOff := lineOffOf r.marks es pole
    pole := pole
    u := publishedU es pole
    maxSpeed := eightMax (es.map speedOf)
    offerSum := min 1023 (es.map offerOf).sum
    latest := some r.marks }

/-- The PEER notice of a position, if its state or its role changed (R60). -/
def peerNote (old new : PeerEntry) (i : Fin 8) : List (Nat × Nat) :=
  if new.st ≠ old.st ∨ (old.st ≠ .absent ∧ new.role ≠ old.role) then
    [(i.val, 256 * new.role + new.st.code)]
  else []

/-- The PEER notices of a view update, position 0 first (R60). -/
def peerNotes (old new : Eight PeerEntry) : List (Nat × Nat) :=
  allEight.flatMap (fun i => peerNote (old.get i) (new.get i) i)

/-- The peer view takes a round record (R44). -/
def State.absorb (s : State) (r : RoundRecord) : State :=
  (s.setView (s.view.absorb r)).notifyAll .peer r.stamp
    (peerNotes s.view.entries (s.view.absorb r).entries)

/-- K4 PEER_SILENT: an entry other than the own one is SILENT (R59). -/
def State.peerSilent (s : State) : Bool :=
  allEight.any (fun i => i != s.straps.stn && (s.view.entries.get i).st == .silent)

/-- The peer view is cleared, and with it what other blocks took from it: LOWER heard and held speed
(R80), REGEN_OK (R135), the layover read flag (R177) and, as at each clearing, the holder view (R150). -/
def State.clearView (s : State) : State :=
  ((((s.setView View.cleared).setPole s.pole.clearHeard).setCeil { s.ceil with regenOk := false }).setLine
    { s.line with layoverRead := false }).setArb { s.arb with holder := .free }

end Sys2Proof.Machine
end

