-- ==== Sys2Proof/Machine/Image.lean ====
section
/-!
DEFINITION. What a station would send now and why it would start or stretch a round: marks (R25), band
(R26, R27), start reasons (R9), stretch reasons (R12).
-/

namespace Sys2Proof.Machine

/-! ## Marks -/

/-- Both pole records are ON_WIRE (R97). -/
def PoleWatch.bothOnWire (p : PoleWatch) : Bool := p.pos.st.isOnWire && p.neg.st.isOnWire

/-- Either record is in GAP (R98). -/
def PoleWatch.anyGap (p : PoleWatch) : Bool := p.pos.st.isGap || p.neg.st.isGap

/-- CUT is asserted: E_CUT, or the POLE's cut hold (R121). -/
def State.cutAsserted (s : State) : Bool := s.pins.eCut || decide (0 < s.budget.cutHold)

/-- REGEN_BAR of the POLE (R99) and of a STORE (R136). -/
def State.regenBar (s : State) : Bool :=
  if s.isPole then decide (s.port.settings.uRegen ≤ s.scan.u) || !s.pole.bothOnWire
  else s.isStore && s.pins.ri0

/-- HOLD of pole watch (R99). -/
def State.poleHold (s : State) : Bool :=
  s.isPole && (s.pole.anyGap || (s.pole.bothOnWire && decide (s.scan.u < s.port.settings.uFloor)))

/-- Not ready for layover (R177). -/
def State.notReady (s : State) : Bool :=
  s.arb.window.isSome ||
    (s.hasCeiling && decide (0 < s.ceil.ceiling)) ||
    (s.isAux && allEight.any (fun i => (s.feed.get i).st.energized)) ||
    s.pins.wakeIn

/-- HOLD of all its owners (R76, R99, R177). -/
def State.holdAsserted (s : State) : Bool :=
  !s.scan.settled || s.poleHold || (s.line.layoverRead && s.notReady)

/-- LAYOVER of the CAB (R174). -/
def State.layoverAsserted (s : State) : Bool :=
  s.isCab && s.pins.ri2 &&
    (match s.view.latest with
     | some m => m.offWire && !m.drop
     | none => false)

/-- Each mark whose owner asserts it at this instant (R25, R28). -/
def State.marksNow (s : State) : Marks where
  drop := s.isPole && (s.pole.pos.unacked || s.pole.neg.unacked)
  gap := s.isPole && s.pole.anyGap
  offWire := s.isPole && (s.pole.pos.st.isOff || s.pole.neg.st.isOff)
  regenBar := s.regenBar
  ack := s.isCab && s.slate.ackPending
  lower := s.isCab && s.pins.ri1
  cut := s.cutAsserted
  hold := s.holdAsserted
  inrush := s.arb.window.isSome
  layover := s.layoverAsserted

/-- The mark set it would assert now: empty unless JOINING or JOINED (R25, log 10). -/
def State.wouldAssert (s : State) : Marks := if s.line.join.sending then s.marksNow else Marks.empty

/-! ## The band -/

/-- TIER by role (R27). -/
def State.bandTier (s : State) : Nat :=
  match s.role with
  | .drive => 2
  | .store => 1
  | .aux => s.port.settings.tier
  | _ => 0

/-- The POLE's U: 0 unless both records are ON_WIRE (R97). -/
def State.poleU (s : State) : Nat := if s.pole.bothOnWire then s.scan.u else 0

/-- ROLE VALUE by role (R27). -/
def State.bandValue (s : State) : Nat :=
  if s.isPole then s.poleU else if s.hasCeiling then s.port.roleValue else 0

/-- The alarm bits (R59, R100, R121). -/
def State.alarmsNow (s : State) : Alarms where
  k0 := s.isPole && s.pole.pos.droppedOpen
  k1 := s.isPole && s.pole.neg.droppedOpen
  k2 := s.budget.ownOverdraw || decide (0 < s.budget.cutHold)
  k3 := s.pins.eCut
  k4 := s.peerSilent

/-- The band it would latch now (R26, R27). CLAIM is the own claim (R123). -/
def State.bandNow (s : State) : Band where
  present := true
  role := s.straps.role
  unsettled := !s.scan.settled
  tier := BitVec.ofNat 2 s.bandTier
  claim := BitVec.ofNat 10 s.ownClaim
  value := BitVec.ofNat 10 s.bandValue
  alarms := s.alarmsNow

/-! ## Start reasons and stretch reasons -/

/-- Band change (R9, R29). -/
def State.bandChange (s : State) : Bool :=
  s.line.join.sending && decide (some s.bandNow ≠ s.line.lastBand)

/-- Mark change (R9, R29): in every join state, also after a clash or a fault in a round with marks (log 36). -/
def State.markChange (s : State) : Bool := decide (s.wouldAssert ≠ s.line.lastMarks)

/-- A start reason other than keepalive is waiting (R9). -/
def State.startReasonBut (s : State) : Bool := s.line.wakeDue || s.bandChange || s.markChange

/-- A start reason is waiting (R9). -/
def State.startReason (s : State) : Bool := s.line.keepaliveDue || s.startReasonBut

/-- A mark read in the round that stretches its stop (R12). -/
def Marks.stretches (m : Marks) : Bool := m.drop || m.gap || m.cut || m.inrush

/-- The own band latched for this round differs from the one latched before (R12, R29, log 11). -/
def Line.bandDiffers (l : Line) : Bool := l.image.band.isSome && decide (l.lastBand ≠ l.prevBand)

/-- A peer entry is HEARD_ONCE (R12). -/
def View.anyHeardOnce (v : View) : Bool := allEight.any (fun i => (v.entries.get i).st == .heardOnce)

/-- A stretch reason holds (R12). -/
def State.stretchReason (s : State) : Bool :=
  (rxMarks s.line.rx).stretches || s.line.bandDiffers || s.candidate || s.arb.window.isSome ||
    s.view.anyHeardOnce || s.startReason

end Sys2Proof.Machine
end

