-- ==== Sys2Proof/Machine/Frames.lean ====
section
/-!
DEFINITION. The line engine's framing (01, 02): faults, clashes, discards, the start frame event, the
falling edge of PACE-B and the end of the low half. What happens at a completion is in Rounds.lean.
-/

namespace Sys2Proof.Machine

/-! ## Losing the round -/

/-- The round in flight given up and PACE-D released: RESYNC with this low run (R16, R21). -/
def Line.lost (l : Line) (run : Nat) : Line :=
  { l with
    pdDrv := false
    pdLift := false
    phase := .resync
    lowRun := run
    highRun := 0
    ignoreRun := false
    driveLeft := 0
    recBeat := 0
    takesPart := false
    droveFrame := false
    keyIn := false
    countIn := false }

/-- Entry to limp with the window dropped first (R122, R149, R162): ceiling unit and feeder table act on
the limp grant (R133). -/
def State.enterLimp (s : State) : State :=
  let s1 := s.dropWindow
  (((s1.setBudget { s1.budget with limp := true }).limpEvaluate).ceilingLimpEntry).feederLimp false

/-- Entry to LINE_DOWN with the cause of the LINE notice, its value and the low run kept (R21, R122; the
order of the notices is log 13). The last and previous band are kept (R29, log 35). -/
def State.enterLineDown (s : State) (cause value run : Nat) : State :=
  let s1 := s.notify .line cause value s.countStamp
  let s2 := s1.setLine { s1.line.lost run with
    discards := 0, join := .lineDown, heard := 0, backoff := 0, layoverCount := 0 }
  ((s2.setLineUp false).clearView).enterLimp

/-- A line fault: entry to LINE_DOWN, or in LINE_DOWN the round given up without a notice (R21). -/
def State.lineFault (s : State) (cause run : Nat) : State :=
  if s.line.join = .lineDown then s.setLine { s.line.lost run with discards := 0 }
  else s.enterLineDown cause s.line.discards run

/-- A discarded round, RESYNC beginning with this low run (R16, R17, log 8). -/
def State.discard (s : State) (run : Nat) : State :=
  if s.line.discards + 1 < 3 then s.setLine { s.line.lost run with discards := s.line.discards + 1 }
  else if s.line.join = .lineDown then s.setLine { s.line.lost run with discards := 0 }
  else s.enterLineDown 5 3 run

/-- A clash in the own band at band slot k: the station stops driving and becomes CLASHED (R37, R38). What it
won at slot 17 it has won (R31, R40): the flags of the contests stay as the contests left them. -/
def State.enterClashed (s : State) (k : Nat) : State :=
  let s1 := s.setLine { s.line with
    pdDrv := false
    image := { s.line.image with sends := false }
    ownClashed := true
    join := .clashed
    backoff := 0 }
  (s1.notify .line 6 k s1.countStamp).enterLimp

/-! ## The start frame event -/

/-- A LISTEN station becomes JOINING if it may (R35). -/
def State.joinAtStart (s : State) : JoinState :=
  if s.line.join = .listen ∧ s.line.heard = 2 ∧ s.port.locked = true ∧ s.roleAssigned = true then .joining
  else s.line.join

/-- The image latched (R28). -/
def State.imageNow (s : State) : Image :=
  if s.line.join.sending then ⟨true, s.marksNow, s.keyNow, s.line.roundCount, some s.bandNow⟩
  else Image.empty

/-- The line engine after the latch of this image: what it compares with later (R29), the contests (R30 to
R32), the taking-part flag (R6) and the event reasons served (R8). -/
def Line.latch (l : Line) (im : Image) : Line :=
  let takes := decide (0 < l.driveLeft) || l.join.sending
  { l with
    phase := .frame
    lowRun := Config.startBeats
    highRun := 0
    ignoreRun := false
    keepaliveDue := false
    wakeDue := false
    takesPart := takes
    droveFrame := decide (0 < l.driveLeft)
    image := im
    keyIn := im.sends && decide (im.key ≠ 0)
    countIn := im.sends
    rx := 0
    ownClashed := false
    lastBand := if im.sends then im.band else l.lastBand
    prevBand := if im.sends then l.lastBand else l.prevBand
    lastMarks := if takes then im.marks else l.lastMarks }

/-- Rounds waited return to 0 at a latch that finds no candidate (R142). -/
def State.arbLatch (s : State) : State :=
  if s.candidate then s else s.setArb { s.arb with waited := 0 }

/-- The POLE's cut hold counts down after the latch (R119). -/
def State.cutHoldDown (s : State) : State :=
  s.setBudget { s.budget with cutHold := s.budget.cutHold - 1 }

/-- The limp evaluation of a start frame event (R123, R133, R162). -/
def State.limpAtStart (s : State) : State :=
  if s.budget.limp then ((s.limpEvaluate).ceilingLimp).feederLimp true else s

/-- The start frame event (R8, R28): join state, latch, then the owners' own actions at it. -/
def State.startFrame (s : State) : State :=
  let s1 := s.setLine { s.line with join := s.joinAtStart }
  let s2 := s1.setLine (s1.line.latch s1.imageNow)
  let s3 := s2.arbLatch.slateStart.poleStart.cutHoldDown
  s3.limpAtStart.captureB

/-! ## Slots -/

/-- The station still sends at this slot (R28, R30, R37). -/
def Line.sendsAt (l : Line) (slot : Nat) : Bool :=
  l.image.sends &&
    (if inKeyField slot then l.keyIn else if inCountField slot then l.countIn else true)

/-- The station presses in this slot (R5, R25, R30). -/
def State.presses (s : State) (slot : Nat) : Bool :=
  s.line.sendsAt slot && s.line.image.bitAt s.straps.stn.val slot

/-- The drive of PACE-D from the rising edge of a press beat (R5). -/
def State.pressDrive (s : State) : State :=
  if isPress s.line.slotBeat then
    s.setLine { s.line with pdDrv := s.presses (slotOf s.line.slotBeat) }
  else s

/-- A slot value read: it is kept, and a released slot read low ends a contest (R5, R30). -/
def Line.readSlot (l : Line) (slot : Nat) (low : Bool) : Line :=
  { l with
    rx := shiftIn l.rx low
    keyIn := l.keyIn && !(inKeyField slot && low && !l.pdDrv)
    countIn := l.countIn && !(inCountField slot && low && !l.pdDrv) }

/-- A clash is read at this slot: a released slot of the own band, while the station sends, reads low (R37). -/
def State.clashAt (s : State) (slot : Nat) (low : Bool) : Bool :=
  s.line.image.sends && inBand s.straps.stn.val slot && low && !s.line.pdDrv

/-- The end sample of a press beat without a fault (R5, R30, R37). -/
def State.slotEnd (s : State) (slot : Nat) : State :=
  let low := !s.pins.pdHigh
  let s1 := s.setLine (s.line.readSlot slot low)
  if s.clashAt slot low then s1.enterClashed (slot - (34 + 32 * s.straps.stn.val)) else s1

/-! ## The falling edge of PACE-B -/

/-- The beat ending is a press beat (R5). -/
def Line.pressBeat (l : Line) : Bool := l.phase == .slots && isPress l.slotBeat

/-- A pressed slot reads high at its end sample (R20). -/
def State.pressHigh (s : State) : Bool := s.line.pressBeat && s.line.pdDrv && s.pins.pdHigh

/-- PACE-B asserted, the low half begun (R2). -/
def State.assertB (s : State) : State := s.setLine { s.line with driver := .lowHalf, pbDrv := true }

/-- One beat of the own start or stop frame is over, and a press ends (R5, R7, R11). -/
def Line.driveStep (l : Line) : Line :=
  { l with driveLeft := l.driveLeft - 1, pdDrv := decide (1 < l.driveLeft) }

/-- A start or stop frame of n beats begun (R7, R11). -/
def Line.drive (l : Line) (n : Nat) : Line := { l with driveLeft := n, pdDrv := true }

/-- The stop test at the edge beginning the expected beat (R11). -/
def State.stopTest (s : State) : State :=
  let l := { s.line with phase := .stop, lowRun := 0 }
  if s.line.takesPart then s.setLine (l.drive (if s.stretchReason then 3 else 2)) else s.setLine l

/-- The slot beat count advances; after 869 comes the expected beat (R6, R11). -/
def State.slotAdvance (s : State) : State :=
  if s.line.phase = .slots then
    if s.line.slotBeat < Config.lastSlotBeat then s.setLine { s.line with slotBeat := s.line.slotBeat + 1 }
    else s.stopTest
  else s

/-- The second recovery beat ends: by mode (R14, log 25). In CONTINUOUS mode the phase stays RECOVERY until the
next mid sample (log 34). -/
def Line.recoveryEnd (l : Line) : Line :=
  match l.mode with
  | .continuous =>
    let l1 := { l with recBeat := 0 }
    if l.driveLeft = 0 then l1.drive Config.startBeats else l1
  | .quiet => { l with recBeat := 0, phase := if l.phase = .recovery then .idle else l.phase }

/-- The recovery beats counted (R14). -/
def Line.recoveryStep (l : Line) : Line :=
  if l.recBeat = 1 then { l with recBeat := 2 }
  else if l.recBeat = 2 then l.recoveryEnd
  else l

/-- The station begins a start frame at this edge: R7's first two cases, and R22 in LINE_DOWN (log 9). -/
def State.mayStart (s : State) : Bool :=
  s.line.driveLeft == 0 && s.line.recBeat == 0 &&
    ((s.line.phase == .idle && s.line.lastMidHigh && s.startReason) ||
      (s.line.phase == .frame && decide (1 ≤ s.line.lowRun) && decide (s.line.lowRun ≤ 3) &&
        (if s.line.join == .lineDown then s.startReasonBut else s.startReason)) ||
      (s.line.phase == .resync && s.line.join == .lineDown && s.line.lastMidHigh && s.line.keepaliveDue))

/-- The start of a round at a falling edge (R7). -/
def State.startTest (s : State) : State :=
  if s.mayStart then s.setLine (s.line.drive Config.startBeats) else s

/-- The end sample of the beat ending, if it is a press beat, and PD_LIFT for the lift beat of a slot in
which the station pressed (R5). -/
def State.endSample (s : State) : State :=
  let s1 := s.setLine { s.line with pdLift := s.line.pressBeat && s.line.pdDrv }
  if s.line.pressBeat then s1.slotEnd (slotOf s.line.slotBeat) else s1

/-- The edge after its end sample and before a start: drives, counts, stop test, recovery (R11, R14). -/
def State.edgeCounts (s : State) : State :=
  let s1 := (s.setLine s.line.driveStep).slotAdvance
  s1.setLine s1.line.recoveryStep

/-- The whole edge after its end sample (R7, R11, R14). -/
def State.edgeDrives (s : State) : State := s.edgeCounts.startTest

/-- The falling edge of PACE-B (R2, R5). A pressed-but-high reading ends the rest of the edge (R20, R21,
log 19). -/
def State.fallingEdge (s : State) : State :=
  let s0 := s.assertB
  if s0.pressHigh then s0.lineFault 4 0 else s0.endSample.edgeDrives

/-! ## The end of the own low half -/

/-- The low half ends: PB_SENSE is read, PACE-B released; a high reading is a fault (R2, R20). Asleep the
driver stops (R4, log 23). -/
def State.lowHalfEnd (s : State) : State :=
  if s.line.join = .asleep then s.setLine { s.line with driver := .stopped, pbDrv := false }
  else
    let s1 := s.setLine { s.line with driver := .waitRise, pbDrv := false }
    if s.pins.pbHigh then s1.lineFault 3 0 else s1

end Sys2Proof.Machine
end

