-- ==== Sys2Proof/Machine/Layover.lean ====
section
/-!
DEFINITION. Layover (11), station reset and power-on: what each block does at the events that reach it from
outside its own rules.
-/

namespace Sys2Proof.Machine

/-! ## Waking (R181) -/

/-- The beat driver as it starts at power-on and at a wake, by the level of PB_SENSE (R4). -/
def driverStart (pbHigh : Bool) : Driver := if pbHigh then .highHalf else .waitRise

/-- The line engine at a wake (R6, R29, R33, R39, R178, R181); by line, the low run under way is ignored
(R182). -/
def Line.wake (l : Line) (p : Pins) (quiet : Nat) (own : Bool) : Line :=
  { Line.reset with
    driver := driverStart p.pbHigh
    beatLong := p.beatLong
    ignoreRun := !own
    slotBeat := l.slotBeat
    rx := l.rx
    keepalive := some quiet
    wakeDue := own }

/-- A wake, own or by line (R181). -/
def State.wake (s : State) (own : Bool) : State :=
  let s1 := s.setLine (s.line.wake s.pins s.port.settings.quietMs own)
  let s2 := s1.setLineUp false
  let s3 := s2.setWakeDet { s2.wakeDet with armed := false }
  s3.scanWake.clearCeil.slateWake

/-! ## Entry to ASLEEP (R179) -/

/-- The grant set is cleared, with its GRANT notice (R125). -/
def State.sleepBudget (s : State) : State :=
  let s1 := s.setBudget s.budget.cleared
  if 0 < s.ownGrant then s1.notify .grant 2 0 s.countStamp else s1

/-- The ceiling record is cleared, with its CEILING notice (R139). -/
def State.sleepCeil (s : State) : State :=
  if s.hasCeiling && decide (0 < s.ceil.ceiling) then s.clearCeil.notify .ceiling 0 0 s.countStamp
  else s.clearCeil

/-- The line engine at entry to ASLEEP: a driver in LOW_HALF stops at the end of it (R4, R39, R179). -/
def Line.sleep (l : Line) : Line :=
  { l with
    driver := if l.driver = .lowHalf then .lowHalf else .stopped
    pdDrv := false
    pdLift := false
    driveLeft := 0
    recBeat := 0
    keepalive := none
    join := .asleep
    heard := 0
    backoff := 0 }

/-- A stowed seen flag at entry to ASLEEP (R180). -/
def stowedAtEntry (x : PoleRec) (z : Zone) : Bool :=
  match x.st with
  | .lowered => true
  | .retrieved _ => true
  | _ => z == .stowed

/-- The wake detector armed (R180). -/
def State.armWake (s : State) : State :=
  s.setWakeDet ⟨true, s.isPole && stowedAtEntry s.pole.pos s.scan.angPos.zone,
    s.isPole && stowedAtEntry s.pole.neg s.scan.angNeg.zone⟩

/-- Pole watch frozen: its timers pause, the acknowledgeable flags clear (R95, R104, R105). -/
def State.sleepPole (s : State) : State :=
  if s.isPole then s.setPole { s.pole.clearAckable with paused := true } else s

/-- A level that wakes a station at once at entry: LAYOVER_IN released at a CAB, WAKE_IN asserted (R179). -/
def State.wakeLevel (s : State) : Bool := (s.isCab && !s.pins.ri2) || s.pins.wakeIn

/-- The blocks at entry to ASLEEP, in the order of R179. -/
def State.fallAsleep (s : State) : State :=
  let s1 := s.dropWindow.sleepBudget.sleepCeil.feederClear.clearView
  let s2 := s1.setLine s1.line.sleep
  let s3 := (s2.setLineUp false).armWake
  (s3.setScan s3.scan.sleep).sleepPole.slateSleep

/-- Entry to ASLEEP, followed at once by a wake where a level asks for it (R179). -/
def State.enterAsleep (s : State) : State :=
  if s.wakeLevel then s.fallAsleep.wake true else s.fallAsleep

/-! ## The wake detector (R180) -/

/-- An own cause wakes a sleeping station and does nothing at an awake one (R180). -/
def State.ownCause (s : State) : State := if s.line.join = .asleep then s.wake true else s

/-- A slow pass shows the pole in WORK or HIGH while its flag is set (R180). -/
def angleCause (flag : Bool) (z : Zone) : Bool := flag && z != .stowed

/-- The wake detector at a slow pass end: the flags, and a wake by angle (R180). -/
def State.slowDetect (s : State) : State :=
  let zp := s.scan.angPos.zone
  let zn := s.scan.angNeg.zone
  if angleCause s.wakeDet.stowedPos zp || angleCause s.wakeDet.stowedNeg zn then s.wake true
  else
    s.setWakeDet { s.wakeDet with
      stowedPos := s.wakeDet.stowedPos || zp == .stowed
      stowedNeg := s.wakeDet.stowedNeg || zn == .stowed }

/-! ## Station reset (R186) -/

/-- The line engine at a station reset of an awake station; the beat driver runs on (R1, R4, R6, R39). -/
def Line.stationReset (l : Line) (quiet : Nat) : Line :=
  { Line.reset with
    driver := l.driver
    beatLong := l.beatLong
    pbDrv := l.pbDrv
    lastMidHigh := l.lastMidHigh
    slotBeat := l.slotBeat
    rx := l.rx
    keepalive := some quiet }

/-- The port's part of a station reset (R184 to R191). -/
def Port.stationReset (p : Port) : Port :=
  { Port.reset with
    locked := p.locked
    settings := p.settings
    demand := p.demand
    roleValue := p.roleValue
    dataOut := p.dataOut }

/-- The acknowledgeable flags at a station reset (R95, R104). -/
def State.resetPole (s : State) : State := s.setPole s.pole.clearAckable

/-- A station reset of an awake station: line engine, view, window, grants, ceiling, feeders, pole watch,
slate, and last the port, which empties the queue (R186). -/
def State.resetAwake (s : State) : State :=
  let s1 := (s.setLine (s.line.stationReset s.port.settings.quietMs)).clearView
  let s2 := s1.dropWindow
  let s3 := (s2.setBudget s2.budget.cleared).clearCeil.feederClear.resetPole.slateReset
  s3.setPort s3.port.stationReset

/-- A station reset; asleep it is first a wake with an own cause (R186). -/
def State.stationReset (s : State) : State := s.ownCause.resetAwake

/-! ## Power-on (R4, R192) -/

/-- Group A begins at the release of RESET (R65). -/
def State.scanStart (s : State) : State :=
  if s.isPole then s.setScan (s.scan.startPass s.pins) else s

/-- The part at the release of RESET with these straps and levels; the waiting commands stay (R4, R192). -/
def powerOnState (st : Straps) (p : Pins) (q : List Instr) : State :=
  let s0 := (((State.reset.setStraps st).setPins p).setLine
    { Line.reset with driver := driverStart p.pbHigh, beatLong := p.beatLong }).setPending q
  s0.clearCeil.scanStart

end Sys2Proof.Machine
end

