-- ==== Sys2Proof/Machine/Rounds.lean ====
section
/-!
DEFINITION. The completion of a good round (R13, R33 to R41), the view update in its order (R58), and the
mid sample (R8, R13 to R16).
-/

namespace Sys2Proof.Machine

/-! ## The view update (R58) -/

/-- The layover read flag (R177). -/
def State.layoverFlag (s : State) (r : RoundRecord) : State :=
  s.setLine { s.line with layoverRead := r.marks.layover }

/-- The layover count after a round (R178). -/
def layoverNext (n : Nat) (m : Marks) : Nat := if m.layover && !m.hold then min 2 (n + 1) else 0

/-- The layover count moves, and at 2 the station enters ASLEEP (R178). -/
def State.layoverStep (s : State) (r : RoundRecord) : State :=
  let n := layoverNext s.line.layoverCount r.marks
  let s1 := s.setLine { s.line with layoverCount := n }
  if n = 2 then s1.enterAsleep else s1

/-- The blocks that act before the window event is handed on: budget unit, restart arbiter (R58, R152). -/
def State.evalUpdate (s : State) (r : RoundRecord) : State :=
  ((s.absorb r).layoverFlag r).budgetUpdate r

/-- The blocks that act on the view update, the arbiter first (R58, R152). -/
def State.actUpdate (s : State) (r : RoundRecord) : State :=
  let e := (s.arbAct r).event
  let s1 := ((s.arbUpdate r).poleUpdate r).slateUpdate r
  ((s1.ceilingUpdate r e).feederUpdate r e).regenUpdate r

/-- A view update whole: the peer view, the blocks in the order of R58, then layover (R178). -/
def State.viewUpdate (s : State) (r : RoundRecord) : State := ((s.evalUpdate r).actUpdate r).layoverStep r

/-! ## Completion (R13, R41) -/

/-- The eight bands of the slots read (R40). -/
def rxBands (rx : BitVec 290) : Eight Band := Eight.ofFn (rxBand rx)

/-- The round record, with the join state after the completion (R40, R41). -/
def Line.record (l : Line) (j : JoinState) : RoundRecord where
  number := rxCount l.rx
  marks := rxMarks l.rx
  keyRead := rxKey l.rx
  keySent := l.image.key
  keyWon := decide (l.image.key ≠ 0) && l.keyIn
  bands := rxBands l.rx
  ownClashed := l.ownClashed
  asserted := l.image.marks
  join := j

/-- The join state after a good completion (R23, R36, R38). -/
def Line.joinDone (l : Line) : JoinState :=
  match l.join with
  | .listen => .listen
  | .joining => .joined
  | .joined => .joined
  | .clashed => if l.backoff + 1 < Config.backoffRounds then .clashed else .listen
  | .lineDown => .listen
  | .asleep => .asleep

/-- The heard count after a good completion (R35, R39). -/
def Line.heardDone (l : Line) : Nat :=
  match l.join with
  | .listen => min 2 (l.heard + 1)
  | .joining => l.heard
  | .joined => l.heard
  | .clashed => if l.backoff + 1 < Config.backoffRounds then l.heard else 0
  | .lineDown => 1
  | .asleep => l.heard

/-- The back-off count after a good completion (R38, R39). -/
def Line.backoffDone (l : Line) : Nat :=
  match l.join with
  | .clashed => l.backoff + 1
  | .lineDown => 0
  | _ => l.backoff

/-- The LINE notice of a completion, subject and value (R23, R36, R38, R39). -/
def Line.doneNote (l : Line) : List (Nat × Nat) :=
  match l.join with
  | .listen => []
  | .joining => [(8, (rxCount l.rx).toNat)]
  | .joined => []
  | .clashed => if l.backoff + 1 < Config.backoffRounds then [] else [(7, 16)]
  | .lineDown => [(0, 0)]
  | .asleep => []

/-- The completion leaves CLASHED or LINE_DOWN: limp becomes no (R124). -/
def Line.leavesLimp (l : Line) : Bool :=
  (l.join == .clashed || l.join == .lineDown) && l.joinDone == .listen

/-- The line engine at a completion (R13, R33, R41). -/
def Line.complete (l : Line) (m : Mode) (quiet : Nat) : Line :=
  { l with
    phase := .recovery
    recBeat := 1
    mode := m
    lowRun := 0
    discards := 0
    keepalive := some quiet
    takesPart := false
    droveFrame := false
    roundCount := rxCount l.rx + 1
    join := l.joinDone
    heard := l.heardDone
    backoff := l.backoffDone }

/-- The completion up to the handing of the record: line engine, LINE_UP, LINE notice, limp (R13, R23, R36,
R38, R124, R184). -/
def State.lineComplete (s : State) (m : Mode) : State :=
  let s1 := s.setLine (s.line.complete m s.port.settings.quietMs)
  let s2 := s1.setLineUp (s1.port.lineUp || s1.roleAssigned)
  let s3 := s2.notifyAll .line s1.countStamp s.line.doneNote
  if s.line.leavesLimp then s3.setBudget { s3.budget with limp := false } else s3

/-- The completion of a good round (R13, R41). -/
def State.complete (s : State) (m : Mode) : State :=
  (s.lineComplete m).viewUpdate (s.line.record s.line.joinDone)

/-! ## The mid sample -/

/-- The mode a stop run of this length chooses (R13). -/
def modeOfRun (run : Nat) : Mode := if run = 2 then .quiet else .continuous

/-- A low mid sample in FRAME or RESYNC, counted (R8, R15, R19). A run that stands at 9 has been a fault
already and counts no further. -/
def State.countLow (s : State) : State :=
  if s.line.lowRun + 1 = Config.startBeats then s.startFrame
  else if s.line.lowRun + 1 = Config.stuckRun then s.lineFault 2 Config.stuckRun
  else if s.line.lowRun < Config.stuckRun then
    s.setLine { s.line with lowRun := s.line.lowRun + 1, highRun := 0 }
  else s.setLine { s.line with highRun := 0 }

/-- A high mid sample in RESYNC (R15). -/
def Line.resyncHigh (l : Line) : Line :=
  if l.lowRun = 2 ∨ l.lowRun = 3 then
    { l with phase := .recovery, mode := modeOfRun l.lowRun, recBeat := 1, lowRun := 0, highRun := 0 }
  else if l.highRun + 1 < Config.idleSamples then { l with lowRun := 0, highRun := l.highRun + 1 }
  else { l with phase := .idle, mode := .quiet, lowRun := 0, highRun := 0 }

/-- The mid sample in RESYNC; the low run under way after a line wake is ignored (R15, R182, log 18). -/
def State.midResync (s : State) (high : Bool) : State :=
  if s.line.ignoreRun then
    if high then s.setLine { s.line with ignoreRun := false, lowRun := 0 }.resyncHigh else s
  else if high then s.setLine s.line.resyncHigh
  else s.countLow

/-- The mid sample in IDLE or RECOVERY: a low one begins a run (R8). -/
def State.midIdle (s : State) (high : Bool) : State :=
  if high then s else s.setLine { s.line with phase := .frame, lowRun := 1 }

/-- The mid sample in FRAME (R8). -/
def State.midFrame (s : State) (high : Bool) : State :=
  if high then
    if s.line.lowRun < Config.startBeats then s.setLine { s.line with phase := .idle, lowRun := 0 }
    else (s.setLine { s.line with phase := .slots, slotBeat := 0, lowRun := 0 }).pressDrive
  else s.countLow

/-- The mid sample in SLOTS: a low one discards the round (R16). -/
def State.midSlots (s : State) (high : Bool) : State := if high then s.pressDrive else s.discard 1

/-- A low mid sample in STOP (R13, R19). -/
def State.stopLow (s : State) : State :=
  if s.line.lowRun + 1 < Config.stuckRun then s.setLine { s.line with lowRun := s.line.lowRun + 1 }
  else s.lineFault 2 Config.stuckRun

/-- The mid sample in STOP (R13, R16). -/
def State.midStop (s : State) (high : Bool) : State :=
  if high then
    if s.line.lowRun < 2 then s.discard 0 else s.complete (modeOfRun s.line.lowRun)
  else s.stopLow

/-- A start or stop frame of its own reads high at a mid sample (R20). -/
def State.frameHigh (s : State) : Bool := decide (0 < s.line.driveLeft) && s.pins.pdHigh

/-- The rising edge: the high half begins, PD_LIFT is lowered, the sample is kept (R2, R5). -/
def State.riseB (s : State) : State :=
  s.setLine { s.line with driver := .highHalf, pdLift := false, lastMidHigh := s.pins.pdHigh }

/-- The mid sample by phase. -/
def State.samplePhase (s : State) : State :=
  match s.line.phase with
  | .resync => s.midResync s.pins.pdHigh
  | .idle => s.midIdle s.pins.pdHigh
  | .frame => s.midFrame s.pins.pdHigh
  | .slots => s.midSlots s.pins.pdHigh
  | .stop => s.midStop s.pins.pdHigh
  | .recovery => s.midIdle s.pins.pdHigh

/-- The rising edge of PACE-B with the beat's mid sample (R2, R5, R8). -/
def State.midSample (s : State) : State :=
  let s1 := s.riseB
  if s1.frameHigh then s1.lineFault 4 0 else s1.samplePhase

end Sys2Proof.Machine
end

