-- ==== Sys2Proof/Machine/Flags.lean ====
section
/-!
DEFINITION. What the box reads of the part: status byte (R184), summary word (R191), LIRQ (R189), the role
outputs and TRIP (R194). All are computed from the state.
-/

namespace Sys2Proof.Machine

/-- SLATE_FULL: the slate-full flag, 0 at other roles than CAB (R184). -/
def State.slateFull (s : State) : Bool := s.isCab && s.slate.full

/-- The status byte, bit 7 first (R184). -/
def State.statusByte (s : State) : Byte :=
  BitVec.ofBool (!s.port.queue.isEmpty) ++ BitVec.ofBool s.port.intake.isSome ++
    BitVec.ofBool s.port.refused ++ BitVec.ofBool s.port.lost ++ BitVec.ofBool s.slateFull ++
    BitVec.ofBool s.port.locked ++ BitVec.ofBool s.port.lineUp ++ BitVec.ofBool s.port.cd

/-- A pole's field of the summary word: its state code, 7 at a role without pole records (R191). -/
def State.poleField (s : State) (w : PoleName) : Nat :=
  if s.isPole then (s.pole.record w).st.code else 7

/-- "Ceiling is 0": 1 at a role without a ceiling record (R191). -/
def State.ceilingZero (s : State) : Bool := !s.hasCeiling || s.ceil.ceiling == 0

/-- The summary word (R191). -/
def State.summaryWord (s : State) : BitVec 16 :=
  BitVec.ofNat 4 0 ++ BitVec.ofNat 3 (s.poleField .pos) ++ BitVec.ofNat 3 (s.poleField .neg) ++
    BitVec.ofBool s.ceilingZero ++ BitVec.ofNat 3 s.line.join.code ++ BitVec.ofBool s.view.lineOff ++
    BitVec.ofBool (s.arb.holder == .self)

/-- LIRQ (R189). -/
def State.lirq (s : State) : Bool :=
  decide (s.port.settings.watermark ≤ s.port.queue.length) || s.port.queue.any (fun n => n.kind == .pole)

/-- LAMP: awake with a slate that is not empty (R173). -/
def State.lamp (s : State) : Bool := s.isCab && s.line.join != .asleep && !s.slate.entries.isEmpty

/-- CUT_OUT of a DRIVE (R134). -/
def State.cutOut (s : State) : Bool := s.isDrive && s.ceil.cutHeld

/-- CHARGE_EN of a STORE (R136). -/
def State.chargeEn (s : State) : Bool := s.isStore && decide (0 < s.ceil.ceiling)

/-- TRIP (R117, R194). -/
def State.tripOut (s : State) : Bool := s.contends && s.budget.trip.isSome

/-- RO0 to RO7 by role; an output the role does not use is released (R194). -/
def State.roleOutputs (s : State) : Eight Bool :=
  match s.role with
  | .pole => { Eight.all false with e0 := s.pole.arcCut }
  | .drive => { Eight.all false with e0 := s.cutOut, e1 := s.ceil.regenOk }
  | .aux => s.feed.map (fun f => f.st.energized)
  | .store => { Eight.all false with e0 := s.chargeEn }
  | .cab => { Eight.all false with e0 := s.slate.sounder, e1 := s.lamp }
  | .unassigned => Eight.all false

end Sys2Proof.Machine
end

