-- ==== Sys2Proof/Machine/Snapshots.lean ====
section
/-!
DEFINITION. The snapshot copies of R190, byte by byte in the order of each record's table; a field that is
absent reads 0 in its place (log 21).
-/

namespace Sys2Proof.Machine

/-- The alarm bits in one byte, bit n for Kn (R190). -/
def Alarms.byte (a : Alarms) : Nat :=
  a.k0.toNat + 2 * a.k1.toNat + 4 * a.k2.toNat + 8 * a.k3.toNat + 16 * a.k4.toNat

/-- Item 0 (R43). -/
def PeerEntry.copy (e : PeerEntry) : List Byte :=
  byte1 e.st.code ++ byte1 e.role ++ byte1 e.tier ++ byteB e.unsettled ++ byte1 e.alarms.byte ++
    byte2 e.lastClaim ++ byte2 (orZero e.prevClaim) ++ byte2 e.lastValue ++ byte2 (orZero e.prevValue) ++
    byte2 e.claim ++ byte2 e.value ++ byte1 e.miss

/-- The drop cause code of a record, 0 when absent. -/
def PoleState.causeCode (p : PoleState) : Nat :=
  match p with
  | .dropped c => c.code
  | .retrieved c => c.code
  | _ => 0

/-- Allowance granted and remaining, 0 when absent. -/
def PoleState.allowances (p : PoleState) : Nat × Nat :=
  match p with
  | .gap g l => (g, l)
  | _ => (0, 0)

/-- Rewire remaining, 0 when absent. -/
def PoleState.rewireLeft (p : PoleState) : Nat :=
  match p with
  | .rewiring l => l
  | _ => 0

/-- Item 1 (R78). -/
def PoleRec.copy (x : PoleRec) : List Byte :=
  byte1 x.st.code ++ byte1 x.st.causeCode ++ byte2 x.st.allowances.1 ++ byte2 x.st.allowances.2 ++
    byte2 x.st.rewireLeft ++ byteB x.droppedOpen ++ byteB x.unacked ++ byteB x.ackable ++ byte2 x.stamp

/-- The eight grants, two bytes each, position 0 first (R190). -/
def grantBytes (g : Eight Nat) : List Byte :=
  byte2 g.e0 ++ byte2 g.e1 ++ byte2 g.e2 ++ byte2 g.e3 ++ byte2 g.e4 ++ byte2 g.e5 ++ byte2 g.e6 ++ byte2 g.e7

/-- Item 2 (R107). -/
def Budget.copy (b : Budget) (own : Nat) : List Byte :=
  byte1 b.kind.code ++ byte2 b.stamp ++ byteB b.lineOffUsed ++ byte2 b.uUsed ++ byte2 b.lav ++
    byte2 b.offerUsed ++ byte2 b.avail ++ grantBytes b.grants ++ byte2 b.remainder ++ byte2 own ++
    byteB b.limp ++ byteB b.ownOverdraw ++ byte1 b.overCount ++ byte1 b.underCount ++
    byteB b.trip.isSome ++ byte1 (orZero b.trip) ++ byte1 b.overCurrent ++ byte1 b.cutHold ++ byte2 b.lastI

/-- The next feeder's index, 8 when none waits (R190). -/
def State.nextFeederCode (s : State) : Nat :=
  match s.nextFeeder with
  | some i => i.val
  | none => 8

/-- Item 3 (R154). -/
def State.feederCopy (s : State) (i : Fin 8) : List Byte :=
  byte1 (s.port.settings.nominal.get i) ++ byte1 (s.port.settings.inrush.get i) ++
    byteB (s.feed.get i).enable ++ byte1 (s.feed.get i).st.code ++ byte2 (s.feed.get i).stamp ++
    byte2 s.energizedSum ++ byte1 s.nextFeederCode

/-- Item 4 (R165). -/
def SlateEntry.copy (e : SlateEntry) : List Byte :=
  byte1 e.source.val ++ byte1 (kindCode e.kind) ++ byte1 e.st.code ++ byte2 e.stamp ++ byte1 e.rep ++
    byte2 (orZero e.delay)

/-- The shoe state of a channel result: LIVE 1, DEAD 0, 0 when absent (R190). -/
def shoeCode (o : Option Bool) : Nat := (o.getD false).toNat

/-- The zone of a channel result, 0 when absent. -/
def zoneCode (o : Option Zone) : Nat :=
  match o with
  | some z => z.code
  | none => 0

/-- Item 5 (R67). -/
def ChanResult.copy (c : ChanResult) : List Byte :=
  byte2 c.raw.toNat ++ byte2s c.value ++ byteB c.atLimit ++ byteB c.unsettled ++ byte2 c.pass.toNat ++
    byte1 (shoeCode c.shoe) ++ byte1 (zoneCode c.zone) ++ byte2 (orZero c.u)

/-- Item 7 (R126). -/
def Ceil.copy (c : Ceil) : List Byte :=
  byte2 c.ceiling ++ byte1 c.st.code ++ byteB c.cutHeld ++ byteB c.limpCut

/-- A copy of an eight-fold record at an index in its range, else empty (R190). -/
def copyAt (index : Nat) (f : Fin 8 → List Byte) : List Byte := if index < 8 then f (eightOf index) else []

/-- Item 1 by index. -/
def State.poleCopy (s : State) (index : Nat) : List Byte :=
  match index with
  | 0 => s.pole.pos.copy
  | 1 => s.pole.neg.copy
  | _ => []

/-- Item 4 by index. -/
def State.slateCopy (s : State) (index : Nat) : List Byte :=
  match s.slate.entries[index]? with
  | some e => e.copy
  | none => []

/-- Item 8 (R190, R193). -/
def State.settingCopy (s : State) (code : Nat) : List Byte :=
  match s.port.settings.get code with
  | some v => byte2 v
  | none => []

/-- A copy kept only if the record is present and the index is in its range. -/
def keepIf (present : Bool) (l : List Byte) : List Byte := if present then l else []

/-- The copy of an item and index; none for an item that is refused (R190). -/
def State.copyOf (s : State) (item index : Nat) : Option (List Byte) :=
  match item with
  | 0 => some (copyAt index (fun i => (s.view.entries.get i).copy))
  | 1 => some (keepIf s.isPole (s.poleCopy index))
  | 2 => some (keepIf (index == 0) (s.budget.copy s.ownGrant))
  | 3 => some (keepIf s.isAux (copyAt index s.feederCopy))
  | 4 => some (keepIf s.isCab (s.slateCopy index))
  | 5 => some (copyAt index (fun i => (s.scan.results.get i).copy))
  | 6 => some (keepIf (index == 0) (byte2 s.summaryWord.toNat))
  | 7 => some (keepIf (s.hasCeiling && index == 0) s.ceil.copy)
  | 8 => some (s.settingCopy index)
  | _ => none

end Sys2Proof.Machine
end

