-- ==== Sys2Proof/Machine/PortOps.lean ====
section
/-!
DEFINITION. The local port (12): command intake, the commands with parameters, and the reads.
-/

namespace Sys2Proof.Machine

/-! ## Port writes (R183, R185) -/

/-- A whole command was written and its last byte was a parameter: CD 0, intake IDLE (log 30). -/
def State.paramsTaken (s : State) : State := s.setPort { s.port with cd := false, intake := none }

/-- A command byte without parameters: CD 1, a held command discarded (R185). -/
def State.commandByte (s : State) : State := s.setPort { s.port with cd := true, intake := none }

/-! ## The commands with parameters (R186) -/

/-- A write of SETTLE_MS acts at once against the elapsed time of an awake station (R75, log 29). -/
def State.settleNow (s : State) : State :=
  if s.line.join ≠ .asleep ∧ s.port.settings.settleMs ≤ s.scan.settleMs then
    s.setScan { s.scan with settled := true }
  else s

/-- What a setting written does at the write (R75, R159, R193). -/
def State.settingWritten (s : State) (code : Nat) : State :=
  if code = 34 then s.settleNow
  else if isNominalCode code then s.shedToGrant s.countStamp
  else s

/-- CFG_WRITE (R186, R193). -/
def State.cfgWrite (s : State) (item : Byte) (value : BitVec 16) : State :=
  if s.port.locked then s.refuse
  else
    match s.port.settings.put item.toNat value.toNat with
    | some t => (s.setPort { s.port with settings := t }).settingWritten item.toNat
    | none => s.refuse

/-- CFG_LOCK (R186, R193). -/
def State.cfgLock (s : State) : State :=
  if s.roleAssigned then s.setPort { s.port with locked := true } else s.refuse

/-- The value of DEMAND and ROLE_VALUE, clamped (R138, R186). -/
def clampValue (v : BitVec 16) : Nat := min 1023 v.toNat

/-- DEMAND (R132, R138, R186). -/
def State.demandCmd (s : State) (value : BitVec 16) : State :=
  if s.hasCeiling then
    let s1 := s.setPort { s.port with demand := clampValue value }
    s1.putCeil (s1.ceil.demandMove (clampValue value) s1.ownGrant) s1.countStamp
  else s.refuse

/-- ROLE_VALUE (R138, R186). -/
def State.roleValueCmd (s : State) (value : BitVec 16) : State :=
  if s.hasCeiling then s.setPort { s.port with roleValue := clampValue value } else s.refuse

/-- One record at a FEEDER_MASK: it moves if its enable changes (R155). -/
def State.maskOne (s : State) (i : Fin 8) (en : Bool) : State :=
  if (s.feed.get i).enable = en then s
  else
    (s.setFeed (s.feed.set i { s.feed.get i with enable := en })).moveFeeder i
      (if en then .waiting else .off) 0 s.countStamp

/-- The records of the list moved in order (R155). -/
def State.maskAll (l : List (Fin 8)) (mask : Byte) (s : State) : State :=
  match l with
  | [] => s
  | i :: r => State.maskAll r mask (s.maskOne i (mask.getLsbD i.val))

/-- The window feeder is disabled by this mask (R148). -/
def Arbiter.disabledBy (a : Arbiter) (mask : Byte) : Bool :=
  match a.window with
  | some w =>
    match w.feeder with
    | some i => !mask.getLsbD i.val
    | none => false
  | none => false

/-- FEEDER_MASK (R148, R155, R186, log 20). -/
def State.feederMaskCmd (s : State) (mask : Byte) : State :=
  if s.isAux then
    let s1 := s.maskAll allEight mask
    if s1.arb.disabledBy mask then s1.endByDisable else s1
  else s.refuse

/-- SNAPSHOT (R190). -/
def State.snapshotCmd (s : State) (item index : Byte) : State :=
  match s.copyOf item.toNat index.toNat with
  | some l => s.setPort { s.port with source := .snapshot, snap := l, snapPtr := 0 }
  | none => s.refuse

/-- How many parameter bytes a command takes (R186). -/
def paramCount (c : ParamCommand) : Nat :=
  match c with
  | .cfgWrite => 3
  | .demand => 2
  | .roleValue => 2
  | .feederMask => 1
  | .snapshot => 2

/-- The parameter byte at a place of a full list. -/
def paramAt (l : List Byte) (n : Nat) : Byte := l.getD n 0

/-- The value of two parameter bytes, high first (R185). -/
def paramWord (l : List Byte) (n : Nat) : BitVec 16 := paramAt l n ++ paramAt l (n + 1)

/-- A held command executes with all its bytes (R185, R186). -/
def State.runParams (s : State) (c : ParamCommand) (l : List Byte) : State :=
  match c with
  | .cfgWrite => s.cfgWrite (paramAt l 0) (paramWord l 1)
  | .demand => s.demandCmd (paramWord l 0)
  | .roleValue => s.roleValueCmd (paramWord l 0)
  | .feederMask => s.feederMaskCmd (paramAt l 0)
  | .snapshot => s.snapshotCmd (paramAt l 0) (paramAt l 1)

/-- A parameter byte is written (R185). -/
def State.parameterByte (s : State) (b : Byte) : State :=
  match s.port.intake with
  | none => s.setPort { s.port with cd := false, refused := true }
  | some k =>
    if k.held.length + 1 < paramCount k.cmd then
      s.setPort { s.port with cd := false, intake := some { k with held := k.held ++ [b] } }
    else s.paramsTaken.runParams k.cmd (k.held ++ [b])

/-! ## Reads -/

/-- A status read returns the byte and clears two flags (R184). -/
def State.statusRead (s : State) : State :=
  s.setPort { s.port with dataOut := s.statusByte, refused := false, lost := false }

/-- The six bytes of a notice (R188). -/
def Notice.bytes (n : Notice) : List Byte :=
  byte1 n.kind.code ++ byte1 n.subject ++ byte2 n.value ++ byte2 n.stamp

/-- One data read of the notice queue (R188). -/
def Port.noticeRead (p : Port) : Port :=
  match p.queue with
  | [] => { p with dataOut := 0 }
  | n :: r =>
    let b := n.bytes.getD p.byteIdx 0
    if p.byteIdx < 5 then
      { p with dataOut := b, byteIdx := p.byteIdx + 1, headLatched := p.headLatched || p.byteIdx == 0 }
    else { p with dataOut := b, byteIdx := 0, queue := r, headLatched := false }

/-- One data read of the snapshot buffer; past the end it returns 0 and the pointer rests (R190, log 22). -/
def Port.snapshotRead (p : Port) : Port :=
  { p with dataOut := p.snap.getD p.snapPtr 0, snapPtr := min p.snap.length (p.snapPtr + 1) }

/-- One data read of the summary word (R191). -/
def State.summaryRead (s : State) : State :=
  match s.port.summaryLow with
  | none =>
    s.setPort { s.port with
      dataOut := s.summaryWord.extractLsb' 8 8, summaryLow := some s.summaryWord }
  | some w => s.setPort { s.port with dataOut := w.extractLsb' 0 8, summaryLow := none }

end Sys2Proof.Machine
end

