-- ==== Sys2Proof/Machine/LineRows.lean ====
section
/-!
DEFINITION. The meanings of the rows of the pace line (01, 02). A row whose event cannot occur in the state
leaves the state as it is; a row that names an outcome of an edge or a sample is that whole edge or sample
(log 1).
-/

namespace Sys2Proof.Machine

/-- The answer of every meaning: a next state, a fault or a refusal; this model gives next states only. -/
abbrev Result := Host.Outcome State Fault Refusal

/-- The event's effect where the event can occur, else the state as it is (log 1). -/
def State.onlyIf (s : State) (due : Bool) (t : State) : Result := .next (if due then t else s)

/-! ## When an edge or a sample can occur -/

/-- A falling edge of PACE-B is a beat (R2). -/
def Line.edgeDue (l : Line) : Bool := l.driver == .waitFall || l.driver == .highHalf

/-- A rising edge of PACE-B is awaited (R2). -/
def Line.sampleDue (l : Line) : Bool := l.driver == .waitRise

/-- RESYNC is counting its runs (R15, R182). -/
def Line.resyncCounts (l : Line) : Bool := l.phase == .resync && !l.ignoreRun

/-! ## The beat -/

/-- POWER_ON (R4, R192). -/
def execPowerOn (st : Straps) (p : Pins) (s : State) : Result := .next (powerOnState st p s.pending)

/-- LOW_HALF_EXPIRY (R2, R20). -/
def execLowHalfExpiry (p : Pins) (s : State) : Result :=
  s.onlyIf (s.line.driver == .lowHalf) (s.sense p).lowHalfEnd

/-- HIGH_HALF_EXPIRY: the station makes the beat (R2). -/
def execHighHalfExpiry (p : Pins) (s : State) : Result :=
  s.onlyIf (s.line.driver == .highHalf && p.pbHigh) (s.sense p).fallingEdge

/-- BEAT: another station makes the beat (R2). -/
def execBeat (p : Pins) (s : State) : Result := s.onlyIf s.line.edgeDue (s.sense p).fallingEdge

/-- MID_SAMPLE (R2, R8). -/
def execMidSample (p : Pins) (s : State) : Result := s.onlyIf s.line.sampleDue (s.sense p).midSample

/-! ## Line faults -/

/-- PACE_B_STUCK_LOW: the driver has released and waits for a rise (R18, R21, log 33). -/
def execPaceBStuckLow (p : Pins) (s : State) : Result :=
  s.onlyIf (s.line.sampleDue && !p.pbHigh) ((s.sense p).lineFault 1 0)

/-- The run stands at 8 and is being counted (R19). -/
def Line.stuckDue (l : Line) : Bool :=
  l.lowRun == 8 && (l.phase == .frame || l.phase == .stop || l.resyncCounts)

/-- PACE_D_STUCK_LOW: the mid sample that brings the low run to 9 (R19, R21). -/
def execPaceDStuckLow (p : Pins) (s : State) : Result :=
  s.onlyIf (s.line.sampleDue && !p.pdHigh && s.line.stuckDue) (s.sense p).midSample

/-- PRESSED_BUT_HIGH at its three sample points (R20, R21). -/
def execPressedButHigh (w : PressPoint) (p : Pins) (s : State) : Result :=
  match w with
  | .paceB =>
    s.onlyIf (s.line.driver == .lowHalf && s.line.join != .asleep && p.pbHigh) (s.sense p).lowHalfEnd
  | .paceDFrame => s.onlyIf (s.line.sampleDue && (s.sense p).frameHigh) (s.sense p).midSample
  | .paceDPress => s.onlyIf (s.line.edgeDue && (s.sense p).pressHigh) (s.sense p).fallingEdge

/-! ## Frames and rounds -/

/-- The edge finds a start to make (R7, R22); the CONTINUOUS start is RECOVERY_END's (log 41). -/
def State.startDue (s : State) : Bool :=
  !s.pressHigh && s.assertB.endSample.edgeCounts.mayStart

/-- ROUND_START (R7, R22). -/
def execRoundStart (p : Pins) (s : State) : Result :=
  s.onlyIf (s.line.edgeDue && (s.sense p).startDue) (s.sense p).fallingEdge

/-- KEEPALIVE_EXPIRY (R10). -/
def execKeepaliveExpiry (s : State) : Result :=
  s.onlyIf s.line.keepalive.isSome (s.setLine { s.line with keepalive := none, keepaliveDue := true })

/-- The next low mid sample is the fourth of a run (R8, R15). -/
def Line.startDue (l : Line) : Bool := l.lowRun == 3 && (l.phase == .frame || l.resyncCounts)

/-- START_FRAME_EVENT (R8, R28, R35). -/
def execStartFrameEvent (p : Pins) (s : State) : Result :=
  s.onlyIf (s.line.sampleDue && !p.pdHigh && s.line.startDue) (s.sense p).midSample

/-- CLASH (R37, R38). -/
def execClash (p : Pins) (s : State) : Result :=
  s.onlyIf (s.line.edgeDue && s.line.pressBeat && s.clashAt (slotOf s.line.slotBeat) (!p.pdHigh))
    (s.sense p).fallingEdge

/-- The beat ending is the rest beat of slot 289 (R11). -/
def Line.stopDue (l : Line) : Bool := l.phase == .slots && decide (Config.lastSlotBeat ≤ l.slotBeat)

/-- STOP_FRAME_TEST (R11, R12). -/
def execStopFrameTest (p : Pins) (s : State) : Result :=
  s.onlyIf (s.line.edgeDue && s.line.stopDue) (s.sense p).fallingEdge

/-- A stop frame is read and the station asserts none of it any more (R13, R20). -/
def Line.stopRead (l : Line) : Bool := l.phase == .stop && l.driveLeft == 0

/-- ROUND_COMPLETION (R13, R41). -/
def execRoundCompletion (p : Pins) (s : State) : Result :=
  s.onlyIf (s.line.sampleDue && p.pdHigh && s.line.stopRead && decide (2 ≤ s.line.lowRun))
    (s.sense p).midSample

/-- RECOVERY_END (R14). -/
def execRecoveryEnd (p : Pins) (s : State) : Result :=
  s.onlyIf (s.line.edgeDue && s.line.recBeat == 2) (s.sense p).fallingEdge

/-- The sample shows a discard (R16). -/
def Line.discardDue (l : Line) (high : Bool) : Bool :=
  (l.phase == .slots && !high) || (l.stopRead && high && decide (l.lowRun < 2))

/-- ROUND_DISCARD (R16, R17). -/
def execRoundDiscard (p : Pins) (s : State) : Result :=
  s.onlyIf (s.line.sampleDue && s.line.discardDue p.pdHigh) (s.sense p).midSample

/-- A run of 2 or 3 stands in RESYNC (R15). -/
def Line.resyncStop (l : Line) : Bool :=
  l.resyncCounts && l.driveLeft == 0 && (l.lowRun == 2 || l.lowRun == 3)

/-- RESYNC_STOP_FRAME (R15). -/
def execResyncStopFrame (p : Pins) (s : State) : Result :=
  s.onlyIf (s.line.sampleDue && p.pdHigh && s.line.resyncStop) (s.sense p).midSample

/-- The next high mid sample is the 880th (R15). -/
def Line.resyncIdleDue (l : Line) : Bool :=
  l.resyncCounts && l.driveLeft == 0 && !(l.lowRun == 2 || l.lowRun == 3) &&
    decide (Config.idleSamples ≤ l.highRun + 1)

/-- RESYNC_IDLE (R15). -/
def execResyncIdle (p : Pins) (s : State) : Result :=
  s.onlyIf (s.line.sampleDue && p.pdHigh && s.line.resyncIdleDue) (s.sense p).midSample

/-- LINE_WAKE (R180 to R182). -/
def execLineWake (p : Pins) (s : State) : Result :=
  s.onlyIf (s.line.join == .asleep && !p.pdHigh) ((s.sense p).wake false)

end Sys2Proof.Machine
end

