-- ==== Sys2Proof/Machine/ScanRows.lean ====
section
/-!
DEFINITION. The meanings of the rows of the scanner (04), the timers (05, 06, 10) and the role inputs (12).
-/

namespace Sys2Proof.Machine

/-! ## The scanner -/

/-- The conversion running is of the last channel of group A (R65). -/
def Conv.endsA (c : Conv) : Bool := c.ch == .an3

/-- The conversion running is the group-B one (R66). -/
def Conv.isB (c : Conv) : Bool := c.ch == .an4

/-- CONVERSION_END: of AN0, AN1 or AN2 (R64). -/
def execConversionEnd (p : Pins) (s : State) : Result :=
  match s.scan.conv with
  | some c =>
    s.onlyIf (!c.endsA && !c.isB) ((s.sense p).setScan ((s.scan.store c).choose p))
  | none => .next s

/-- GROUP_A_PASS_END of an awake station (R65, R67, R74, R79). -/
def execGroupAPassEnd (p : Pins) (s : State) : Result :=
  match s.scan.conv with
  | some c =>
    s.onlyIf (c.endsA && s.line.join != .asleep)
      ((s.sense p).setScan ((s.scan.store c).passEnd s.port.settings p)).polePass
  | none => .next s

/-- SLOW_PASS_START (R65). -/
def execSlowPassStart (p : Pins) (s : State) : Result :=
  s.onlyIf (s.isPole && s.line.join == .asleep) ((s.sense p).setScan (s.scan.startPass p))

/-- SLOW_PASS_END: a pass end of a sleeping station (R74, R77, R180). -/
def execSlowPassEnd (p : Pins) (s : State) : Result :=
  match s.scan.conv with
  | some c =>
    s.onlyIf (c.endsA && s.line.join == .asleep)
      ((s.sense p).setScan ((s.scan.store c).slowEnd s.port.settings p)).slowDetect
  | none => .next s

/-- GROUP_B_PASS_END (R66, R67, R115, R118). -/
def execGroupBPassEnd (p : Pins) (s : State) : Result :=
  match s.scan.conv with
  | some c =>
    s.onlyIf c.isB
      (((s.sense p).setScan (s.scan.passEndB s.port.settings c.raw p)).overdrawCheck c.raw)
  | none => .next s

/-- SETTLE_EXPIRY: the instant at which the elapsed time is SETTLE_MS (R75); the timer stands there after it
(log 2). -/
def execSettleExpiry (s : State) : Result :=
  s.onlyIf (!s.scan.settled && s.line.join != .asleep) (s.setScan (s.scan.settle s.port.settings.settleMs))

/-! ## Timers of pole watch, budget unit and slate -/

/-- The record is REWIRING (R84). -/
def PoleState.isRewiring (p : PoleState) : Bool :=
  match p with
  | .rewiring _ => true
  | _ => false

/-- The pole timers run (R105). -/
def State.poleTimers (s : State) : Bool := s.isPole && !s.pole.paused

/-- REWIRE_EXPIRY (R84, R92, R102). -/
def execRewireExpiry (w : PoleName) (s : State) : Result :=
  s.onlyIf (s.poleTimers && (s.pole.record w).st.isRewiring)
    (((s.movePole w .onWire s.countStamp).clearDroppedOpen w).releaseArcCut s.countStamp)

/-- GAP_ALLOWANCE_EXPIRY (R87, R91). -/
def execGapAllowanceExpiry (w : PoleName) (s : State) : Result :=
  s.onlyIf (s.poleTimers && (s.pole.record w).st.isGap) (s.movePole w (.dropped .timed) s.countStamp)

/-- ARC_CUT_MIN_EXPIRY (R102). -/
def execArcCutMinExpiry (s : State) : Result :=
  s.onlyIf s.pole.arcMin.isSome ((s.setPole { s.pole with arcMin := none }).releaseArcCut s.countStamp)

/-- TRIP_PULSE_EXPIRY (R117). -/
def execTripPulseExpiry (s : State) : Result :=
  s.onlyIf s.budget.trip.isSome (s.setBudget { s.budget with trip := none })

/-- The entry is this one and its sound delay runs (R172). -/
def SlateEntry.delayRuns (e : SlateEntry) (n : Fin 8) (k : AlarmKind) : Bool :=
  e.source == n && e.kind == k && e.st == .raised && e.delay.isSome

/-- The sound delay of an entry has expired (R172). -/
def expireDelay (n : Fin 8) (k : AlarmKind) (l : List SlateEntry) : List SlateEntry :=
  l.map (fun e => if e.delayRuns n k then { e with delay := none } else e)

/-- SOUND_DELAY_EXPIRY (R172). -/
def execSoundDelayExpiry (source : Fin 8) (kind : AlarmKind) (s : State) : Result :=
  s.onlyIf (s.isCab && s.slate.entries.any (fun e => e.delayRuns source kind))
    ((s.setSlate { s.slate with entries := expireDelay source kind s.slate.entries }).sounderOn s.countStamp)

/-- SOUND_MIN_EXPIRY (R172). -/
def execSoundMinExpiry (s : State) : Result :=
  s.onlyIf (s.isCab && s.slate.minLeft.isSome)
    ((s.setSlate { s.slate with minLeft := none }).sounderOffCheck s.countStamp)

/-! ## Role inputs (R194) -/

/-- E_CUT_EDGE: an asserting edge cuts the ceiling or the comfort feeders at once; a releasing one changes
nothing at its own event (R131, R160). -/
def execECutEdge (p : Pins) (s : State) : Result :=
  .next (if p.eCut then ((s.sense p).ceilingCutNow).comfortCut s.countStamp else s.sense p)

/-- FULL_IN_EDGE (R136). -/
def execFullInEdge (p : Pins) (s : State) : Result := .next (s.sense p)

/-- A counted or merged press (R170). -/
def Slate.press (x : Slate) : Slate :=
  { x with ackPending := x.ackPending || x.rearm == .armed, rearm := .disarmed }

/-- ACK_IN_PRESS: at the CAB a press; at other roles the input has no effect (R165, R170). -/
def execAckInPress (p : Pins) (s : State) : Result :=
  s.onlyIf p.ri0 (if s.isCab then (s.sense p).setSlate s.slate.press else s.sense p)

/-- LOWER_IN_EDGE (R174). -/
def execLowerInEdge (p : Pins) (s : State) : Result := .next (s.sense p)

/-- LAYOVER_IN_EDGE: a release at a sleeping CAB wakes it (R174, R180). -/
def execLayoverInEdge (p : Pins) (s : State) : Result :=
  .next (if s.isCab && !p.ri2 then (s.sense p).ownCause else s.sense p)

/-- WAKE_IN_EDGE: an own wake cause (R180). -/
def execWakeInEdge (p : Pins) (s : State) : Result := s.onlyIf p.wakeIn (s.sense p).ownCause

end Sys2Proof.Machine
end

