-- ==== Sys2Proof/Machine/PortRows.lean ====
section
/-!
DEFINITION. The meanings of the rows of the local port (12).
-/

namespace Sys2Proof.Machine

/-- CFG_WRITE (R186, R193). -/
def execCfgWrite (item : Byte) (value : BitVec 16) (s : State) : Result :=
  .next (s.paramsTaken.cfgWrite item value)

/-- CFG_LOCK (R186, R193). -/
def execCfgLock (s : State) : Result := .next s.commandByte.cfgLock

/-- DEMAND (R132, R138, R186). -/
def execDemand (value : BitVec 16) (s : State) : Result := .next (s.paramsTaken.demandCmd value)

/-- ROLE_VALUE (R138, R186). -/
def execRoleValue (value : BitVec 16) (s : State) : Result := .next (s.paramsTaken.roleValueCmd value)

/-- FEEDER_MASK (R148, R155, R186). -/
def execFeederMask (mask : Byte) (s : State) : Result := .next (s.paramsTaken.feederMaskCmd mask)

/-- SNAPSHOT (R186, R190). -/
def execSnapshot (item index : Byte) (s : State) : Result := .next (s.paramsTaken.snapshotCmd item index)

/-- NOTICES (R186, R188). -/
def execNotices (s : State) : Result :=
  .next (s.commandByte.setPort { s.commandByte.port with source := .notices, byteIdx := 0 })

/-- SUMMARY (R186, R191); the next read is of a high byte, also where a low byte was due (log 40). -/
def execSummary (s : State) : Result :=
  .next (s.commandByte.setPort { s.commandByte.port with source := .summary, summaryLow := none })

/-- STATION_RESET (R186). -/
def execStationReset (p : Pins) (s : State) : Result := .next (s.sense p).stationReset

/-- WAKE (R180, R186). -/
def execWakeCommand (p : Pins) (s : State) : Result := .next (s.sense p).commandByte.ownCause

/-- COMMAND_INTAKE: a known command byte with parameters (R185). -/
def execCommandIntake (c : ParamCommand) (s : State) : Result :=
  .next (s.setPort { s.port with cd := true, intake := some ⟨c, []⟩ })

/-- UNKNOWN_COMMAND (R185). -/
def execUnknownCommand (code : Byte) (s : State) : Result :=
  s.onlyIf (!commandCodes.contains code) s.commandByte.refuse

/-- PARAMETER_BYTE_WRITE (R185). -/
def execParameterByteWrite (b : Byte) (s : State) : Result := .next (s.parameterByte b)

/-- STATUS_READ (R184). -/
def execStatusRead (s : State) : Result := .next s.statusRead

/-- NOTICE_READ (R188). -/
def execNoticeRead (s : State) : Result :=
  s.onlyIf (s.port.source == .notices) (s.setPort s.port.noticeRead)

/-- SNAPSHOT_READ (R190). -/
def execSnapshotRead (s : State) : Result :=
  s.onlyIf (s.port.source == .snapshot) (s.setPort s.port.snapshotRead)

/-- SUMMARY_READ (R191). -/
def execSummaryRead (s : State) : Result := s.onlyIf (s.port.source == .summary) s.summaryRead

end Sys2Proof.Machine
end

