-- ==== Sys2Proof/Machine/Tick.lean ====
section
/-!
DEFINITION. One millisecond with no command waiting (log 2): the timers of the part count, and a timer at
its last millisecond waits there for the command that is its expiry.
-/

namespace Sys2Proof.Machine

/-- One millisecond less, down to the last one (log 2). -/
def lastMs (n : Nat) : Nat := if n ≤ 1 then n else n - 1

/-- A timer running, one millisecond on; a stopped one stays stopped. -/
def msDown (o : Option Nat) : Option Nat :=
  match o with
  | some n => some (lastMs n)
  | none => none

/-- The keepalive timer (R10). -/
def Line.tick (l : Line) : Line := { l with keepalive := msDown l.keepalive }

/-- The settle timer of an awake station: it counts up to the millisecond before SETTLE_MS and waits there, so that
no station is SETTLING at an elapsed time of SETTLE_MS (R75, R77, log 2). -/
def Scan.tick (x : Scan) (awake : Bool) (ms : Nat) : Scan :=
  if awake && !x.settled && decide (x.settleMs + 1 < ms) then { x with settleMs := x.settleMs + 1 } else x

/-- The allowance or rewire timer of a record (R84, R87). -/
def PoleState.tick (p : PoleState) : PoleState :=
  match p with
  | .gap g l => .gap g (lastMs l)
  | .rewiring l => .rewiring (lastMs l)
  | _ => p

def PoleRec.tick (x : PoleRec) (run : Bool) : PoleRec := if run then { x with st := x.st.tick } else x

/-- Pole watch: the record timers unless paused, the ARC_CUT minimum always (R101, R103, R105). -/
def PoleWatch.tick (p : PoleWatch) : PoleWatch :=
  { p with
    pos := p.pos.tick (!p.paused)
    neg := p.neg.tick (!p.paused)
    arcMin := msDown p.arcMin
    arcMs := if p.arcCut then tickUp p.arcMs else p.arcMs }

/-- The TRIP pulse (R117). -/
def Budget.tick (b : Budget) : Budget := { b with trip := msDown b.trip }

/-- The sound delays, the SOUNDER minimum and the time SOUNDER is ON (R172, R175). -/
def Slate.tick (x : Slate) : Slate :=
  { x with
    entries := x.entries.map (fun e => { e with delay := msDown e.delay })
    minLeft := msDown x.minLeft
    onMs := if x.sounder then tickUp x.onMs else x.onMs }

/-- One millisecond (log 2). -/
def State.tick (s : State) : State :=
  let s1 := (s.setLine s.line.tick).setScan (s.scan.tick (s.line.join != .asleep) s.port.settings.settleMs)
  ((s1.setPole s.pole.tick).setBudget s.budget.tick).setSlate s.slate.tick

end Sys2Proof.Machine
end

