-- ==== Sys2Proof/Machine/Dispatch.lean ====
section
/-!
DEFINITION. One arm for each row of spec/opcode_table.json: what the command does to everything but the queue.
-/

namespace Sys2Proof.Machine

def exec (i : Instr) (s : State) : Host.Outcome State Fault Refusal :=
  match i with
  | .powerOn st p => Sys2Proof.Machine.execPowerOn st p s
  | .lowHalfExpiry p => Sys2Proof.Machine.execLowHalfExpiry p s
  | .highHalfExpiry p => Sys2Proof.Machine.execHighHalfExpiry p s
  | .paceBStuckLow p => Sys2Proof.Machine.execPaceBStuckLow p s
  | .paceDStuckLow p => Sys2Proof.Machine.execPaceDStuckLow p s
  | .pressedButHigh w p => Sys2Proof.Machine.execPressedButHigh w p s
  | .roundStart p => Sys2Proof.Machine.execRoundStart p s
  | .keepaliveExpiry => Sys2Proof.Machine.execKeepaliveExpiry s
  | .startFrameEvent p => Sys2Proof.Machine.execStartFrameEvent p s
  | .clash p => Sys2Proof.Machine.execClash p s
  | .stopFrameTest p => Sys2Proof.Machine.execStopFrameTest p s
  | .roundCompletion p => Sys2Proof.Machine.execRoundCompletion p s
  | .recoveryEnd p => Sys2Proof.Machine.execRecoveryEnd p s
  | .roundDiscard p => Sys2Proof.Machine.execRoundDiscard p s
  | .resyncStopFrame p => Sys2Proof.Machine.execResyncStopFrame p s
  | .resyncIdle p => Sys2Proof.Machine.execResyncIdle p s
  | .groupAPassEnd p => Sys2Proof.Machine.execGroupAPassEnd p s
  | .slowPassStart p => Sys2Proof.Machine.execSlowPassStart p s
  | .slowPassEnd p => Sys2Proof.Machine.execSlowPassEnd p s
  | .groupBPassEnd p => Sys2Proof.Machine.execGroupBPassEnd p s
  | .settleExpiry => Sys2Proof.Machine.execSettleExpiry s
  | .rewireExpiry w => Sys2Proof.Machine.execRewireExpiry w s
  | .gapAllowanceExpiry w => Sys2Proof.Machine.execGapAllowanceExpiry w s
  | .arcCutMinExpiry => Sys2Proof.Machine.execArcCutMinExpiry s
  | .tripPulseExpiry => Sys2Proof.Machine.execTripPulseExpiry s
  | .soundDelayExpiry source kind => Sys2Proof.Machine.execSoundDelayExpiry source kind s
  | .soundMinExpiry => Sys2Proof.Machine.execSoundMinExpiry s
  | .eCutEdge p => Sys2Proof.Machine.execECutEdge p s
  | .fullInEdge p => Sys2Proof.Machine.execFullInEdge p s
  | .ackInPress p => Sys2Proof.Machine.execAckInPress p s
  | .lowerInEdge p => Sys2Proof.Machine.execLowerInEdge p s
  | .layoverInEdge p => Sys2Proof.Machine.execLayoverInEdge p s
  | .wakeInEdge p => Sys2Proof.Machine.execWakeInEdge p s
  | .lineWake p => Sys2Proof.Machine.execLineWake p s
  | .cfgWrite item value => Sys2Proof.Machine.execCfgWrite item value s
  | .cfgLock => Sys2Proof.Machine.execCfgLock s
  | .demand value => Sys2Proof.Machine.execDemand value s
  | .roleValue value => Sys2Proof.Machine.execRoleValue value s
  | .feederMask mask => Sys2Proof.Machine.execFeederMask mask s
  | .snapshot item index => Sys2Proof.Machine.execSnapshot item index s
  | .notices => Sys2Proof.Machine.execNotices s
  | .summary => Sys2Proof.Machine.execSummary s
  | .stationReset p => Sys2Proof.Machine.execStationReset p s
  | .wakeCommand p => Sys2Proof.Machine.execWakeCommand p s
  | .commandIntake c => Sys2Proof.Machine.execCommandIntake c s
  | .unknownCommand code => Sys2Proof.Machine.execUnknownCommand code s
  | .parameterByteWrite b => Sys2Proof.Machine.execParameterByteWrite b s
  | .statusRead => Sys2Proof.Machine.execStatusRead s
  | .noticeRead => Sys2Proof.Machine.execNoticeRead s
  | .snapshotRead => Sys2Proof.Machine.execSnapshotRead s
  | .summaryRead => Sys2Proof.Machine.execSummaryRead s
  | .beat p => Sys2Proof.Machine.execBeat p s
  | .midSample p => Sys2Proof.Machine.execMidSample p s
  | .conversionEnd p => Sys2Proof.Machine.execConversionEnd p s

end Sys2Proof.Machine
end

