-- ==== Sys2Proof/Machine/Step.lean ====
section
/-!
DEFINITION. A step: the command at the front of the queue, or a millisecond on an empty queue (log 2).
-/

namespace Sys2Proof.Machine

/-- The command at the front of the queue is run with the queue's rest; on an empty queue a millisecond
passes (log 2). -/
def step (s : State) : Host.Outcome State Fault Refusal :=
  match s.pending with
  | [] => .next s.tick
  | c :: rest => exec c (s.setPending rest)

/-- The state with a command put at the front of its queue. -/
def State.push (s : State) (c : Instr) : State := s.setPending (c :: s.pending)

/-- The state with the command a word spells put at the front of its queue; no word spells one (log 6). -/
def State.withFetchWord (s : State) (nbits w : Nat) : State :=
  match decodeTableWord nbits w with
  | some c => s.push c
  | none => s

end Sys2Proof.Machine
end

