-- ==== Sys2Proof/Safety.lean ====
section
/-!
DEFINITION. What every reachable state satisfies, block by block: the invariants that the spec states or
that its tables of values imply.
-/

namespace Sys2Proof.Machine

/-! ## The notice queue (R187, R188) -/

/-- How many notices of a kind wait unlatched. -/
def unlatchedCount (p : Port) (k : NoticeKind) : Nat := p.unlatched.countP (fun n => n.kind == k)

/-- At most 32 notices, at most one GRANT and one CEILING notice not yet latched; the byte index is 0 to 5
and stands above 0 only while the head is latched (R187, R188). -/
def queueOk (p : Port) : Prop :=
  p.queue.length ≤ Config.queueDepth ∧ unlatchedCount p .grant ≤ 1 ∧ unlatchedCount p .ceiling ≤ 1 ∧
    p.byteIdx ≤ 5 ∧ (p.headLatched = true → p.queue ≠ []) ∧ (0 < p.byteIdx → p.headLatched = true)

/-! ## The settings (R193) -/

/-- The settings of the budget unit are in range, U_KNEE above U_FLOOR (R114). -/
def budgetSettingsOk (t : Settings) : Prop :=
  (t.tier = 1 ∨ t.tier = 3) ∧ 1 ≤ t.iCap ∧ t.iCap ≤ 1023 ∧ t.uFloor < t.uKnee ∧ t.uKnee ≤ 1023 ∧
    1 ≤ t.uRegen ∧ t.uRegen ≤ 1023 ∧ t.lineMargin ≤ 255 ∧ t.ownMargin ≤ 255 ∧ 1 ≤ t.cutHold ∧
    t.cutHold ≤ 63 ∧ t.limpA ≤ 1023 ∧ 10 ≤ t.tripPulse ∧ t.tripPulse ≤ 255

/-- The settings of pole watch and scanner are in range, the pairs in order (R71, R72, R106). -/
def poleSettingsOk (t : Settings) : Prop :=
  1 ≤ t.sectionDm ∧ t.sectionDm ≤ 255 ∧ t.gapGuard ≤ 255 ∧ 1 ≤ t.shoeDead ∧ t.shoeDead < t.shoeLive ∧
    t.shoeLive ≤ 2047 ∧ t.angleStow < t.angleHigh ∧ t.angleHigh ≤ 89 ∧ 10 ≤ t.rewireMs ∧
    t.rewireMs ≤ 1000 ∧ 10 ≤ t.arcCutMin ∧ t.arcCutMin ≤ 1000 ∧ 100 ≤ t.potSpan ∧ t.potSpan ≤ 2047 ∧
    1 ≤ t.currSpan ∧ t.currSpan ≤ 2047 ∧ 8 ≤ t.settleMs ∧ t.settleMs ≤ 255

/-- The other settings are in range (R193). -/
def otherSettingsOk (t : Settings) : Prop :=
  1 ≤ t.riseStep ∧ t.riseStep ≤ 255 ∧ 1 ≤ t.rampWindow ∧ t.rampWindow ≤ 15 ∧
    (∀ i, t.nominal.get i ≤ 255) ∧ (∀ i, 1 ≤ t.inrush.get i ∧ t.inrush.get i ≤ 15) ∧
    10 ≤ t.quietMs ∧ t.quietMs ≤ 250 ∧ t.soundDelay ≤ 5000 ∧ t.soundMin ≤ 10000 ∧ t.latchMask ≤ 7 ∧
    1 ≤ t.watermark ∧ t.watermark ≤ 32

/-- Every setting is in its range and every pair in order (R193). -/
def settingsOk (t : Settings) : Prop := budgetSettingsOk t ∧ poleSettingsOk t ∧ otherSettingsOk t

/-- The ranges of the settings by code; none for a code that names no setting (R193). -/
def settingRange (code : Nat) : Option (Nat × Nat) :=
  match code with
  | 1 => some (1, 3)
  | 2 => some (1, 1023)
  | 3 => some (0, 1022)
  | 4 => some (1, 1023)
  | 5 => some (1, 1023)
  | 6 => some (0, 255)
  | 7 => some (0, 255)
  | 8 => some (1, 63)
  | 9 => some (0, 1023)
  | 16 => some (1, 255)
  | 17 => some (0, 255)
  | 18 => some (1, 2046)
  | 19 => some (2, 2047)
  | 20 => some (0, 88)
  | 21 => some (1, 89)
  | 22 => some (10, 1000)
  | 23 => some (10, 1000)
  | 32 => some (100, 2047)
  | 33 => some (1, 2047)
  | 34 => some (8, 255)
  | 40 => some (1, 255)
  | 41 => some (1, 15)
  | 42 => some (10, 255)
  | 64 => some (10, 250)
  | 72 => some (0, 5000)
  | 73 => some (0, 10000)
  | 74 => some (0, 7)
  | 80 => some (1, 32)
  | _ => if 48 ≤ code ∧ code ≤ 55 then some (0, 255) else if 56 ≤ code ∧ code ≤ 63 then some (1, 15) else none

/-! ## Settling (R75) -/

/-- A station awake and SETTLING stands at an elapsed time below SETTLE_MS: it is SETTLED from the first instant at
which that time is reached (R75). -/
def settleOk (s : State) : Prop :=
  s.line.join ≠ .asleep → s.scan.settled = false → s.scan.settleMs < s.port.settings.settleMs

/-! ## Rows of one shape -/

/-- The rows that are a falling edge of PACE-B: another station's fall, and the station's own at the end of
its high half with PACE-B still high (R2). -/
def edgeRow (i : Instr) (p : Pins) (s : State) : Prop :=
  (i = .beat p ∧ s.line.edgeDue = true) ∨
    (i = .highHalfExpiry p ∧ s.line.driver = .highHalf ∧ p.pbHigh = true)

/-- The mid sample, as the row itself or as the row that names its outcome, while a rising edge is awaited
(R2, log 1). -/
def sampleRow (i named : Instr) (p : Pins) (s : State) : Prop :=
  (i = .midSample p ∨ i = named) ∧ s.line.driver = .waitRise

/-- The mid sample that completes a good round (R13). -/
def completionRow (i : Instr) (p : Pins) (s : State) : Prop :=
  sampleRow i (.roundCompletion p) p s ∧ p.pdHigh = true ∧ s.line.phase = .stop ∧ s.line.driveLeft = 0 ∧
    2 ≤ s.line.lowRun

/-- The round read is not the second in a row with LAYOVER and without HOLD: the station stays awake (R178). -/
def staysAwake (s : State) : Prop :=
  ((rxMarks s.line.rx).layover && !(rxMarks s.line.rx).hold) = false ∨ s.line.layoverCount = 0

/-- The rows that detect a line fault, with the LINE subject, the low run kept for RESYNC, and the driver,
PB_DRV and mid sample that the edge or sample leaves (R18 to R21). -/
def faultRow (i : Instr) (p : Pins) (s : State) (cause run : Nat) (d : Driver) (b mid : Bool) : Prop :=
  (i = .paceBStuckLow p ∧ s.line.driver = .waitRise ∧ p.pbHigh = false ∧ cause = 1 ∧ run = 0 ∧
    d = .waitRise ∧ b = s.line.pbDrv ∧ mid = s.line.lastMidHigh) ∨
  (sampleRow i (.paceDStuckLow p) p s ∧ p.pdHigh = false ∧ s.line.lowRun = 8 ∧
    (s.line.phase = .frame ∨ s.line.phase = .stop ∨ (s.line.phase = .resync ∧ s.line.ignoreRun = false)) ∧
    cause = 2 ∧ run = 9 ∧ d = .highHalf ∧ b = s.line.pbDrv ∧ mid = false) ∨
  ((i = .lowHalfExpiry p ∨ i = .pressedButHigh .paceB p) ∧ s.line.driver = .lowHalf ∧
    s.line.join ≠ .asleep ∧ p.pbHigh = true ∧ cause = 3 ∧ run = 0 ∧
    d = .waitRise ∧ b = false ∧ mid = s.line.lastMidHigh) ∨
  (sampleRow i (.pressedButHigh .paceDFrame p) p s ∧ 0 < s.line.driveLeft ∧ p.pdHigh = true ∧
    cause = 4 ∧ run = 0 ∧ d = .highHalf ∧ b = s.line.pbDrv ∧ mid = true) ∨
  ((edgeRow i p s ∨ (i = .pressedButHigh .paceDPress p ∧ s.line.edgeDue = true)) ∧
    s.line.phase = .slots ∧ s.line.slotBeat % 3 = 0 ∧ s.line.pdDrv = true ∧ p.pdHigh = true ∧
    cause = 4 ∧ run = 0 ∧ d = .lowHalf ∧ b = true ∧ mid = s.line.lastMidHigh)

/-! ## What two states share at an event -/

/-- The notice waits in the queue of t, or it was dropped because the queue held 32. No event that generates a
notice takes one out of the queue, so a queue of 32 is then full after the event too (R187). -/
def noticed (t : State) (n : Notice) : Prop :=
  n ∈ t.port.queue ∨ (32 ≤ t.port.queue.length ∧ t.port.lost = true)

/-- The port of t is that of s with this LINE_UP, but for notices queued or lost (R184, R187). -/
def portKept (s t : State) (up : Bool) : Prop :=
  t.port = { s.port with lineUp := up, queue := t.port.queue, lost := t.port.lost }

/-- The line engine with the round in flight given up (R16, R21). -/
def gaveUp (l : Line) (run : Nat) : Line :=
  { l with
    pdDrv := false, pdLift := false, phase := .resync, lowRun := run, highRun := 0, ignoreRun := false
    driveLeft := 0, recBeat := 0, takesPart := false, droveFrame := false, keyIn := false, countIn := false }

/-- The feeder table once the feeder of a dropped window has left INRUSH (R149, R158). -/
def feedBack (s : State) : Eight Feeder :=
  match s.arb.window with
  | some w =>
    match w.feeder with
    | some n =>
      if (s.feed.get n).st = .inrush then
        s.feed.set n { s.feed.get n with st := .waiting, stamp := s.line.roundCount.toNat }
      else s.feed
    | none => s.feed
  | none => s.feed

/-- Feeder l is shed before feeder k, both energized: INRUSH first, then ON from the highest index (R159). -/
def shedsBefore (f : Eight Feeder) (l k : Fin 8) : Bool :=
  ((f.get l).st == .inrush && ((f.get k).st == .on || ((f.get k).st == .inrush && decide (l < k)))) ||
    ((f.get l).st == .on && (f.get k).st == .on && decide (k < l))

/-- What the energized feeders that are not shed before k draw together (R159). -/
def drawnWith (nom : Eight Nat) (f : Eight Feeder) (k : Fin 8) : Nat :=
  (Eight.ofFn (fun l => if (f.get l).st.energized && !shedsBefore f l k then nom.get l else 0)).sum

/-- Shedding against g takes the energized feeder k: with k and those shed after it the sum is above g (R159). -/
def isShed (nom : Eight Nat) (f : Eight Feeder) (g : Nat) (k : Fin 8) : Bool :=
  (f.get k).st.energized && decide (g < drawnWith nom f k)

/-- The feeder table after shedding against g, stamped n: no feeder that fits is shed (R159). -/
def shedTable (nom : Eight Nat) (f : Eight Feeder) (g n : Nat) : Eight Feeder :=
  Eight.ofFn (fun k => if isShed nom f g k then { f.get k with st := .waiting, stamp := n } else f.get k)

/-- The own grant of a limp evaluation on this feeder table (R123). -/
def limpShare (s : State) (f : Eight Feeder) : Nat :=
  if s.hasCeiling then min s.port.demand s.port.settings.limpA
  else if s.isAux = true ∧ s.port.settings.tier = 3 then
    min ({ s with feed := f } : State).auxClaim s.port.settings.limpA
  else 0

/-- The grant set of a limp evaluation with this own grant (R123). -/
def limpSet (s : State) (g : Nat) : Budget :=
  { s.budget with
    limp := true, kind := .limp, stamp := s.line.roundCount.toNat, lineOffUsed := true, uUsed := 0, lav := 0
    offerUsed := 0, avail := s.port.settings.limpA, grants := (Eight.all 0).set s.straps.stn g
    remainder := s.port.settings.limpA - g }

/-- A window dropped from s, its notices in t: WINDOW, and FEEDER cause 3 where its feeder was in INRUSH, stamped n
(R149, R151, R158, R163). -/
def windowDropped (s t : State) (n : Nat) : Prop :=
  t.arb = ⟨0, none, .free⟩ ∧
  ∀ w, s.arb.window = some w → noticed t ⟨.window, 3, 256 * (w.len - w.left) + 9, n⟩ ∧
    ∀ k, w.feeder = some k → (s.feed.get k).st = .inrush → noticed t ⟨.feeder, k.val, 256 * 3 + 1, n⟩

/-- Entry to limp from s to t at this E_CUT level, with this level of REGEN_OK after it: the window dropped, the limp
evaluation made, ceiling and feeders brought under the limp grant, each change with its notice (R122, R123, R133,
R137, R149, R159, R162, R163). -/
def limpEntered (s t : State) (eCut regen : Bool) : Prop :=
  let n := s.line.roundCount.toNat
  let g := limpShare s (feedBack s)
  let nom := s.port.settings.nominal
  windowDropped s t n ∧
  t.budget = limpSet s g ∧ (s.ownGrant ≠ g → noticed t ⟨.grant, 1, g, n⟩) ∧
  (s.hasCeiling = true →
    t.ceil.limpCut = false ∧ t.ceil.regenOk = regen ∧
    (t.ceil.ceiling ≠ s.ceil.ceiling ∨ t.ceil.st ≠ s.ceil.st →
      noticed t ⟨.ceiling, t.ceil.st.code, t.ceil.ceiling, n⟩) ∧
    ((eCut || s.budget.ownOverdraw) = true →
      t.ceil.ceiling = 0 ∧ t.ceil.st = .heldZero ∧ t.ceil.cutHeld = true) ∧
    ((eCut || s.budget.ownOverdraw) = false →
      (s.ceil.st = .ramping → t.ceil.ceiling = min s.ceil.ceiling g ∧
        t.ceil.st = if 0 < min s.ceil.ceiling g then .running
          else if 0 < s.port.demand ∧ 0 < g then .waiting else .heldZero) ∧
      (s.ceil.st = .running → 0 < s.ceil.ceiling → t.ceil.ceiling = min s.ceil.ceiling g ∧
        t.ceil.st = if 0 < g then .running else .heldZero) ∧
      (s.ceil.st ≠ .ramping → s.ceil.st ≠ .running →
        t.ceil = { s.ceil with limpCut := false, regenOk := regen }))) ∧
  (s.hasCeiling = false → t.ceil = { s.ceil with regenOk := regen }) ∧
  (s.isAux = true → t.feed = shedTable nom (feedBack s) g n ∧ t.energizedSum ≤ g ∧
    ∀ k, isShed nom (feedBack s) g k = true → noticed t ⟨.feeder, k.val, 256 * 4 + 1, n⟩) ∧
  (s.isAux = false → t.feed = feedBack s)

/-- Entry to ASLEEP from u to t with these levels, but for its notices: each block as its chapter gives (R61, R77,
R104, R125, R139, R149, R164, R176, R179, R180). -/
def fellAsleep (u t : State) (p : Pins) : Prop :=
  let n := u.line.roundCount.toNat
  let stowed := fun (x : PoleRec) (z : Zone) =>
    u.isPole && (match x.st with
      | .lowered => true
      | .retrieved _ => true
      | _ => z == .stowed)
  t.line = { u.line with
    driver := if u.line.driver = .lowHalf then .lowHalf else .stopped
    pdDrv := false, pdLift := false, driveLeft := 0, recBeat := 0, keepalive := none
    layoverRead := false, layoverCount := 2, join := .asleep, heard := 0, backoff := 0 } ∧
  portKept u t false ∧ t.view = View.cleared ∧ t.arb = ⟨0, none, .free⟩ ∧
  t.budget = { Budget.reset with stamp := u.budget.stamp, trip := u.budget.trip, lastI := u.budget.lastI } ∧
  t.ceil = (if u.hasCeiling then ⟨0, .heldZero, p.eCut, false, false⟩ else { u.ceil with regenOk := false }) ∧
  (u.isAux = true → ∀ k, t.feed.get k =
    if (u.feed.get k).st.energized then { u.feed.get k with st := .waiting, stamp := n } else u.feed.get k) ∧
  (u.isAux = false → t.feed = feedBack u) ∧
  t.scan = { u.scan with bWaiting := false } ∧
  t.pole = (if u.isPole then
      { u.pole with
        pos := { u.pole.pos with ackable := false }, neg := { u.pole.neg with ackable := false }
        lowerHeard := false, heldSpeed := 0, paused := true }
    else { u.pole with lowerHeard := false, heldSpeed := 0 }) ∧
  t.slate = (if u.isCab then
      { u.slate with
        entries := u.slate.entries.map (fun e => if e.st = .raised then { e with delay := none } else e)
        sounder := false, minLeft := none, ackPending := false, rearm := .armed }
    else u.slate) ∧
  t.wakeDet = ⟨true, stowed u.pole.pos u.scan.angPos.zone, stowed u.pole.neg u.scan.angNeg.zone⟩ ∧
  t.straps = u.straps ∧ t.pins = p ∧ t.pending = u.pending

/-- The notices of an entry to ASLEEP from u stand in t: WINDOW and FEEDER cause 3 of a window dropped, GRANT 2,
CEILING, FEEDER cause 8, SLATE 8 (R113, R139, R151, R164, R175, R179). -/
def sleepNoticed (u t : State) : Prop :=
  let n := u.line.roundCount.toNat
  windowDropped u t n ∧
  (0 < u.ownGrant → noticed t ⟨.grant, 2, 0, n⟩) ∧
  (u.hasCeiling = true → 0 < u.ceil.ceiling → noticed t ⟨.ceiling, 0, 0, n⟩) ∧
  (u.isAux = true → ∀ k, ((feedBack u).get k).st.energized = true → noticed t ⟨.feeder, k.val, 256 * 8 + 1, n⟩) ∧
  (u.isCab = true → u.slate.sounder = true → noticed t ⟨.slate, 8, u.slate.onMs, n⟩)

/-- A wake from s to t with these levels, own or by line (R4, R6, R75, R139, R176, R180 to R182). -/
def woken (s t : State) (p : Pins) (own : Bool) : Prop :=
  t.line = { State.reset.line with
    driver := if p.pbHigh then .highHalf else .waitRise
    beatLong := p.beatLong
    ignoreRun := !own
    slotBeat := s.line.slotBeat
    rx := s.line.rx
    keepalive := some s.port.settings.quietMs
    wakeDue := own } ∧
  (t.scan.settled = false ∧ t.scan.settleMs = 0 ∧ t.scan.shoePos = { s.scan.shoePos with run := 0 } ∧
    t.scan.shoeNeg = { s.scan.shoeNeg with run := 0 } ∧ t.scan.results = s.scan.results ∧
    t.scan.angPos = s.scan.angPos ∧ t.scan.angNeg = s.scan.angNeg ∧
    (s.isPole = true → t.scan.passRunning = true)) ∧
  t.wakeDet = { s.wakeDet with armed := false } ∧
  t.ceil = (if s.hasCeiling then ⟨0, .heldZero, p.eCut, false, false⟩ else s.ceil) ∧
  (s.isCab = true →
    let on := s.slate.full && !s.slate.sounder
    let min := s.port.settings.soundMin
    t.slate = { s.slate with
      entries := s.slate.entries.map (fun e =>
        if e.st = .raised then { e with delay := some s.port.settings.soundDelay } else e)
      sounder := s.slate.sounder || s.slate.full
      minLeft := if on then (if min = 0 then none else some min) else s.slate.minLeft
      onMs := if on then 0 else s.slate.onMs
      rearm := .armed
      ackPending := false } ∧
    (on = true → noticed t ⟨.slate, 7, 0, 0⟩)) ∧
  (s.isCab = false → t.slate = s.slate) ∧
  t.port = { s.port with
    lineUp := false, queue := t.port.queue, lost := t.port.lost, cd := t.port.cd, intake := t.port.intake } ∧
  t.pole = s.pole ∧ t.view = s.view ∧ t.budget = s.budget ∧ t.arb = s.arb ∧
  t.feed = s.feed ∧ t.straps = s.straps ∧ t.pins = p ∧ t.pending = s.pending

/-! ## The line engine -/

/-- The counters of the line engine are in their ranges (R6, R14, R15, R17, R35, R38, R178); a discard count
of 3 is never left standing. -/
def countsOk (l : Line) : Prop :=
  l.lowRun ≤ Config.stuckRun ∧ l.highRun < Config.idleSamples ∧ l.slotBeat ≤ Config.lastSlotBeat ∧
    l.driveLeft ≤ Config.startBeats ∧ l.recBeat ≤ 2 ∧ l.discards ≤ 2 ∧ l.heard ≤ 2 ∧
    l.backoff ≤ Config.backoffRounds ∧ (l.join = .clashed → l.backoff < Config.backoffRounds) ∧
    l.layoverCount ≤ 2

/-- A beat is being awaited in its high half: the mid sample is taken (R2). -/
def Driver.sampled (d : Driver) : Prop := d = .waitFall ∨ d = .highHalf

/-- No frame of its own and no recovery beat runs into the slots (R7, R14, R20); the recovery beats are
counted from the sample that begins them. -/
def frameOk (l : Line) : Prop :=
  (l.phase = .slots → l.driveLeft = 0 ∧ l.recBeat = 0) ∧
    (l.recBeat = 1 → l.phase = .recovery ∧ (l.driver.sampled ∨ l.driver = .stopped)) ∧
    (l.recBeat = 2 → l.phase = .recovery ∨ (l.phase = .frame ∧ l.lowRun = 1 ∧ l.driver.sampled))

/-- The drive pins: PB_DRV is high exactly in LOW_HALF, PD_LIFT only from a falling edge to the next rising
one and never beside PD_DRV; a sleeping station drives nothing but the end of its low half (R1, R4, R5). -/
def drivePinsOk (l : Line) : Prop :=
  (l.pbDrv = true ↔ l.driver = .lowHalf) ∧
    (l.pdLift = true → l.pdDrv = false ∧ (l.driver = .lowHalf ∨ l.driver = .waitRise)) ∧
    (l.driver = .stopped → l.join = .asleep) ∧
    (l.join = .asleep → (l.driver = .stopped ∨ l.driver = .lowHalf) ∧ l.pdDrv = false ∧ l.pdLift = false)

/-- The line engine's invariant. -/
def lineOk (l : Line) : Prop := countsOk l ∧ frameOk l ∧ drivePinsOk l

/-! ## Grants (R107, R112) -/

/-- The grants and the remainder share out the availability; with no grant set in force there is none
(R107, R112). -/
def grantsOk (b : Budget) : Prop := b.grants.sum + b.remainder = b.avail ∧ (b.kind = .none → b.avail = 0)

/-! ## Poles (R78, R94, R101) -/

/-- The fields present in a state are in their ranges (R78, R94). -/
def poleFieldsOk (p : PoleState) : Prop :=
  match p with
  | .gap g l => 20 ≤ g ∧ g ≤ 1500 ∧ 1 ≤ l ∧ l ≤ g
  | .rewiring l => 1 ≤ l ∧ l ≤ 1000
  | _ => True

/-- DROPPED or RETRIEVED (R89, R90). -/
def PoleState.isDown (p : PoleState) : Bool :=
  match p with
  | .dropped _ => true
  | .retrieved _ => true
  | _ => false

/-- A pole record: its fields in range, and dropped-open while it is DROPPED or RETRIEVED (R78, R91, R92). -/
def poleRecOk (x : PoleRec) : Prop := poleFieldsOk x.st ∧ (x.st.isDown = true → x.droppedOpen = true)

/-- Both records, and ARC_CUT asserted while either is dropped-open (R101, R102). -/
def polesOk (p : PoleWatch) : Prop :=
  poleRecOk p.pos ∧ poleRecOk p.neg ∧
    (p.pos.droppedOpen = true → p.arcCut = true) ∧ (p.neg.droppedOpen = true → p.arcCut = true)

/-! ## The slate (R165) -/

/-- At most 12 entries, no two with the same source and kind (R165). -/
def slateOk (x : Slate) : Prop :=
  x.entries.length ≤ Config.slateDepth ∧ (x.entries.map (fun e => (e.source, e.kind))).Nodup

/-! ## Draw: ceiling, feeders and window (R126 to R129, R154, R158, R159) -/

/-- A feeder record: enabled or OFF, and INRUSH only as the feeder of a window held (R154, R158). -/
def feederOk (a : Arbiter) (f : Feeder) (i : Fin 8) : Prop :=
  (f.enable = true ↔ f.st ≠ .off) ∧
    (f.st = .inrush → ∃ w, a.window = some w ∧ w.feeder = some i)

/-- The ceiling record: 0 in HELD_ZERO and WAITING, above 0 in RUNNING, HELD_ZERO under a cut, RAMPING only
in a window (R127, R128). -/
def ceilOk (a : Arbiter) (c : Ceil) : Prop :=
  (c.st = .heldZero → c.ceiling = 0) ∧ (c.st = .waiting → c.ceiling = 0) ∧
    (c.st = .running → 0 < c.ceiling) ∧ (c.cutHeld = true → c.st = .heldZero) ∧
    (c.st = .ramping → a.window ≠ none)

/-- Limp is yes exactly in CLASHED and LINE_DOWN, and a window is held only while JOINING or JOINED
(R107, R122, R124, R144, R149). -/
def joinOk (s : State) : Prop :=
  (s.budget.limp = true ↔ s.line.join = .clashed ∨ s.line.join = .lineDown) ∧
    (s.arb.window ≠ none → s.line.join.sending = true)

/-- What the box may draw never exceeds its own grant: the ceiling of a DRIVE or STORE (R129), the energized
sum of an AUX (R159). The records of another role stay empty (R126, R140, R154). -/
def drawOk (s : State) : Prop :=
  joinOk s ∧ ceilOk s.arb s.ceil ∧ (∀ i, feederOk s.arb (s.feed.get i) i) ∧
    (s.hasCeiling = true → s.ceil.ceiling ≤ s.ownGrant) ∧
    (s.isAux = true → s.energizedSum ≤ s.ownGrant) ∧
    (s.hasCeiling = false → s.ceil.st = .heldZero) ∧
    (s.isAux = false → ∀ i, (s.feed.get i).st = .off) ∧
    (s.contends = false → s.arb.window = none)

/-! ## The restart window (R145, R147) -/

/-- A round is in flight: its start frame event has been seen and it has not ended (R6, R8). -/
def Line.inRound (l : Line) : Prop :=
  l.phase = .slots ∨ l.phase = .stop ∨ (l.phase = .frame ∧ Config.startBeats ≤ l.lowRun)

/-- A window held: the round completed last carried none of HOLD, CUT, OFF_WIRE and GAP, and a round in
flight was latched with INRUSH (R145, R147). -/
def windowOk (s : State) : Prop :=
  s.arb.window ≠ none →
    (∃ m, s.view.latest = some m ∧ m.abandons = false) ∧
      (s.line.inRound → s.line.image.marks.inrush = true)

end Sys2Proof.Machine
end

