-- ==== Sys2Proof/Certificates/Slice0/Obligations.lean ====
section
/-!
DEFINITION. The statements about the JN412 model, one def for each. A statement that names no rule as
stated rests on the spec sections that OBLIGATIONS.json lists for it.
-/

open Sys2Proof Sys2Proof.Machine

/-! ## The machine -/

/-- A step runs the command at the front of the queue on the state with the queue's rest. -/
def Obligations.StepRunsTheFrontCommand : Prop :=
  ∀ (c : Instr) (rest : List Instr) (s : State), s.pending = c :: rest →
    step s = exec c { s with pending := rest }

/-- On an empty queue a step is one millisecond: each running timer counts, a timer at its last millisecond waits
there, the settle timer at the millisecond before SETTLE_MS, and nothing else changes (the model's choice, log 2).
The pole timers of a layover are paused; the ARC_CUT minimum runs through it (R105). -/
def Obligations.StepOnAnEmptyQueueIsAMillisecond : Prop :=
  ∀ s : State, s.pending = [] →
    let down : Nat → Nat := fun n => if n ≤ 1 then n else n - 1
    let aged : PoleRec → PoleRec := fun x =>
      if s.pole.paused then x
      else
        match x.st with
        | .gap g l => { x with st := .gap g (down l) }
        | .rewiring l => { x with st := .rewiring (down l) }
        | _ => x
    step s = .next { s with
      line := { s.line with keepalive := s.line.keepalive.map down }
      scan := { s.scan with
        settleMs := if s.line.join ≠ .asleep ∧ s.scan.settled = false ∧
            s.scan.settleMs + 1 < s.port.settings.settleMs then s.scan.settleMs + 1 else s.scan.settleMs }
      pole := { s.pole with
        pos := aged s.pole.pos
        neg := aged s.pole.neg
        arcMin := s.pole.arcMin.map down
        arcMs := if s.pole.arcCut then min 65535 (s.pole.arcMs + 1) else s.pole.arcMs }
      budget := { s.budget with trip := s.budget.trip.map down }
      slate := { s.slate with
        entries := s.slate.entries.map (fun e => { e with delay := e.delay.map down })
        minLeft := s.slate.minLeft.map down
        onMs := if s.slate.sounder then min 65535 (s.slate.onMs + 1) else s.slate.onMs } }

/-- Every command answers a next state, leaves the waiting commands alone, and only POWER_ON reads the
station number and role straps (R192). -/
def Obligations.EveryCommandRunsAndKeepsTheQueue : Prop :=
  ∀ (i : Instr) (s : State), ∃ t, exec i s = .next t ∧ t.pending = s.pending ∧
    ((∀ st p, i ≠ .powerOn st p) → t.straps = s.straps)

/-- The values that the manual gives for reset, and an empty queue of commands. -/
def Obligations.ResetLeavesTheInitialValues : Prop :=
  let s := State.reset
  (s.line.pbDrv = false ∧ s.line.pdDrv = false ∧ s.line.pdLift = false) ∧
  (s.line.phase = .resync ∧ s.line.mode = .quiet ∧ s.line.lowRun = 0 ∧ s.line.discards = 0 ∧
    s.line.keepalive = some 40 ∧ s.line.keepaliveDue = false ∧ s.line.wakeDue = false ∧
    s.line.takesPart = false) ∧
  (s.line.lastBand = none ∧ s.line.prevBand = none ∧ s.line.lastMarks = Marks.empty ∧
    s.line.roundCount = 0) ∧
  (s.line.join = .listen ∧ s.line.heard = 0 ∧ s.line.backoff = 0 ∧ s.line.layoverCount = 0) ∧
  s.view = View.cleared ∧
  ((∀ i, (s.scan.results.get i).raw = 0 ∧ (s.scan.results.get i).value = 0 ∧
    (s.scan.results.get i).unsettled = true) ∧ s.scan.settled = false) ∧
  (s.pole.pos.st = .lowered ∧ s.pole.neg.st = .lowered ∧ s.pole.arcCut = false ∧ s.pole.arcMin = none) ∧
  (s.budget.kind = .none ∧ (∀ i, s.budget.grants.get i = 0) ∧ s.budget.avail = 0 ∧
    s.budget.limp = false ∧ s.budget.trip = none) ∧
  (s.ceil.ceiling = 0 ∧ s.ceil.st = .heldZero ∧ s.ceil.regenOk = false) ∧
  (s.arb.window = none ∧ s.arb.waited = 0 ∧ s.arb.holder = .free) ∧
  (∀ i, (s.feed.get i).enable = false ∧ (s.feed.get i).st = .off) ∧
  (s.slate.entries = [] ∧ s.slate.sounder = false ∧ s.slate.rearm = .armed) ∧
  (s.port.queue = [] ∧ s.port.intake = none ∧ s.port.locked = false ∧ s.port.source = .notices ∧
    s.port.snap = [] ∧ s.port.demand = 0 ∧ s.port.roleValue = 0 ∧ s.port.settings = Settings.default) ∧
  s.lirq = false ∧ s.pending = []

/-- POWER_ON reads the straps and returns every block to its initial values; the beat driver starts by the
level of PB_SENSE, a POLE's group A starts, and cut held follows E_CUT (R4, R65, R139, R192).
Model's choices: the fields that the manual gives no initial value (log 5). -/
def Obligations.PowerOnReturnsEverythingToInitialValues : Prop :=
  ∀ (st : Straps) (p : Pins) (s : State), ∃ t, exec (.powerOn st p) s = .next t ∧
    t = { State.reset with
      straps := st, pins := p, pending := s.pending, line := t.line, ceil := t.ceil, scan := t.scan } ∧
    t.line = { State.reset.line with
      driver := if p.pbHigh then .highHalf else .waitRise, beatLong := p.beatLong } ∧
    t.ceil = { State.reset.ceil with cutHeld := t.hasCeiling && p.eCut } ∧
    t.scan = (if t.isPole then { State.reset.scan with conv := some ⟨.an0, p.an0⟩, aNext := some .an1 }
      else State.reset.scan)

/-- STATION_RESET of an awake station: what each chapter clears, and what it keeps (R1, R6, R29, R33, R39, R61,
R104, R125, R139, R153, R164, R176, R186). Of a sleeping one: an own wake and then that reset (R186).
Model's choices: the fields the manual does not name are kept or take log 5's values. -/
def Obligations.StationResetKeepsAndClears : Prop :=
  (∀ (p : Pins) (s : State), s.line.join ≠ .asleep → ∃ t, exec (.stationReset p) s = .next t ∧
     t.line = { State.reset.line with
       driver := s.line.driver
       beatLong := s.line.beatLong
       pbDrv := s.line.pbDrv
       lastMidHigh := s.line.lastMidHigh
       slotBeat := s.line.slotBeat
       rx := s.line.rx
       keepalive := some s.port.settings.quietMs } ∧
     t.view = View.cleared ∧ t.arb = ⟨0, none, .free⟩ ∧ t.scan = s.scan ∧ t.wakeDet = s.wakeDet ∧
     t.pole = { s.pole with
       pos := { s.pole.pos with ackable := false }
       neg := { s.pole.neg with ackable := false }
       lowerHeard := false
       heldSpeed := 0 } ∧
     (t.budget.kind = .none ∧ (∀ i, t.budget.grants.get i = 0) ∧ t.budget.lav = 0 ∧ t.budget.avail = 0 ∧
       t.budget.remainder = 0 ∧ t.budget.limp = false ∧ t.budget.ownOverdraw = false ∧
       t.budget.overCount = 0 ∧ t.budget.underCount = 0 ∧ t.budget.overCurrent = 0 ∧ t.budget.cutHold = 0 ∧
       t.budget.trip = s.budget.trip ∧ t.budget.lastI = s.budget.lastI) ∧
     (s.hasCeiling = true → t.ceil = ⟨0, .heldZero, p.eCut, false, false⟩) ∧
     (∀ i, (t.feed.get i).enable = (s.feed.get i).enable) ∧
     (s.isAux = true → ∀ i, (t.feed.get i).st =
       if (s.feed.get i).st.energized then .waiting else (s.feed.get i).st) ∧
     t.slate = { s.slate with ackPending := false, rearm := .armed } ∧
     t.port = { State.reset.port with
       locked := s.port.locked
       settings := s.port.settings
       demand := s.port.demand
       roleValue := s.port.roleValue
       dataOut := s.port.dataOut } ∧
     t.straps = s.straps ∧ t.pins = p ∧ t.pending = s.pending) ∧
  (∀ (p : Pins) (s : State), s.line.join = .asleep →
     ∃ t u, exec (.wakeCommand p) s = .next u ∧ u.line.join ≠ .asleep ∧
       exec (.stationReset p) u = .next t ∧ exec (.stationReset p) s = .next t)

/-! ## The beat, frames and slots -/

/-- A beat in the slots, its own or another station's: PACE-B is asserted and the low half begins; at the end of
a press beat the slot's value is read, a released slot read low ends a contest of its field, and a press gives
way to the lift; the slot beat count advances (R2, R5, R6, R30). -/
def Obligations.BeatInTheSlots : Prop :=
  ∀ (i : Instr) (p : Pins) (s : State), edgeRow i p s → s.line.phase = .slots →
    s.line.driveLeft = 0 → s.line.recBeat = 0 → s.line.slotBeat < 869 →
    (s.line.slotBeat % 3 ≠ 0 →
      exec i s = .next { s with
        pins := p
        line := { s.line with
          driver := .lowHalf, pbDrv := true, pdDrv := false, pdLift := false
          slotBeat := s.line.slotBeat + 1 } }) ∧
    (s.line.slotBeat % 3 = 0 → (s.line.pdDrv && p.pdHigh) = false →
      (s.line.image.sends && inBand s.straps.stn.val (s.line.slotBeat / 3) && !p.pdHigh &&
        !s.line.pdDrv) = false →
      exec i s = .next { s with
        pins := p
        line := { s.line with
          driver := .lowHalf, pbDrv := true, pdDrv := false, pdLift := s.line.pdDrv
          rx := shiftIn s.line.rx (!p.pdHigh)
          keyIn := s.line.keyIn &&
            !(decide (30 ≤ s.line.slotBeat ∧ s.line.slotBeat < 54) && !p.pdHigh && !s.line.pdDrv)
          countIn := s.line.countIn &&
            !(decide (54 ≤ s.line.slotBeat ∧ s.line.slotBeat < 102) && !p.pdHigh && !s.line.pdDrv)
          slotBeat := s.line.slotBeat + 1 } })

/-- An edge outside the slots with no frame of its own and no recovery beat running: the station begins a
four-beat start frame if the line is idle and a start reason waits, or to join a frame whose low run is 1, 2
or 3, or in LINE_DOWN from RESYNC on its keepalive; otherwise it drives nothing (R2, R7, R9, R22). ROUND_START
is that edge where the start is made. While a frame of its own lasts, each edge takes one beat from it, and
PACE-D is released after the last (R7, R11). The start reasons: keepalive, an own wake, for a station JOINING or
JOINED a band other than the last one latched, and a mark set other than the last one latched (R9, R29).
Model's choices: the starts in LINE_DOWN for other reasons (log 9), the row by its outcome (log 1), the empty mark
set of a station that does not send (log 10) and its mark change start (log 36). -/
def Obligations.StartFramesLastFourBeats : Prop :=
  (∀ (i : Instr) (p : Pins) (s : State),
     s.line.driveLeft = 0 → s.line.recBeat = 0 → s.line.phase ≠ .slots →
     let u : State := { s with pins := p }
     let starts : Bool :=
       (s.line.phase == .idle && s.line.lastMidHigh && u.startReason) ||
       (s.line.phase == .frame && decide (1 ≤ s.line.lowRun ∧ s.line.lowRun ≤ 3) &&
         (if s.line.join = .lineDown then u.startReasonBut else u.startReason)) ||
       (s.line.phase == .resync && s.line.join == .lineDown && s.line.lastMidHigh && s.line.keepaliveDue)
     (edgeRow i p s ∨ (i = .roundStart p ∧ s.line.edgeDue = true ∧ starts = true)) →
     exec i s = .next { s with
       pins := p
       line := { s.line with
         driver := .lowHalf, pbDrv := true, pdLift := false
         driveLeft := if starts then 4 else 0
         pdDrv := starts } }) ∧
  (∀ (i : Instr) (p : Pins) (s : State), edgeRow i p s → s.line.recBeat = 0 → 1 ≤ s.line.driveLeft →
     (s.line.phase = .stop ∨ (s.line.phase = .frame ∧ 4 ≤ s.line.lowRun) ∨
       (2 ≤ s.line.driveLeft ∧ s.line.phase ≠ .slots)) →
     exec i s = .next { s with
       pins := p
       line := { s.line with
         driver := .lowHalf, pbDrv := true, pdLift := false
         driveLeft := s.line.driveLeft - 1
         pdDrv := decide (2 ≤ s.line.driveLeft) } }) ∧
  (∀ s : State,
     let sends : Prop := s.line.join = .joining ∨ s.line.join = .joined
     let bandChange : Prop := sends ∧ s.line.lastBand ≠ some s.bandNow
     let markChange : Prop := (sends ∧ s.line.lastMarks ≠ s.marksNow) ∨ (¬sends ∧ s.line.lastMarks ≠ Marks.empty)
     (s.startReasonBut = true ↔ s.line.wakeDue = true ∨ bandChange ∨ markChange) ∧
     (s.startReason = true ↔ s.line.keepaliveDue = true ∨ s.line.wakeDue = true ∨ bandChange ∨ markChange))

/-- MID_SAMPLE where nothing is decided for other blocks: a low sample begins or lengthens a run, a high one
ends a false start or opens slot 0, and in the slots the press beat's drive begins (R5, R8).
Model's choices: where the beginnings of the RESYNC counts lie (log 17). -/
def Obligations.MidSampleCountsTheRun : Prop :=
  ∀ (p : Pins) (s : State), s.line.driver = .waitRise →
    let l : Line := { s.line with driver := .highHalf, pdLift := false, lastMidHigh := p.pdHigh }
    ((s.line.phase = .idle ∨ s.line.phase = .recovery) →
      (p.pdHigh = true → s.line.driveLeft = 0 → exec (.midSample p) s = .next { s with pins := p, line := l }) ∧
      (p.pdHigh = false → exec (.midSample p) s =
        .next { s with pins := p, line := { l with phase := .frame, lowRun := 1 } })) ∧
    (s.line.phase = .frame →
      (p.pdHigh = false → s.line.lowRun ≠ 3 → s.line.lowRun < 8 → exec (.midSample p) s =
        .next { s with pins := p, line := { l with lowRun := s.line.lowRun + 1, highRun := 0 } }) ∧
      (p.pdHigh = true → s.line.driveLeft = 0 → s.line.lowRun < 4 → exec (.midSample p) s =
        .next { s with pins := p, line := { l with phase := .idle, lowRun := 0 } }) ∧
      (p.pdHigh = true → s.line.driveLeft = 0 → 4 ≤ s.line.lowRun → exec (.midSample p) s =
        .next { s with
          pins := p
          line := { l with
            phase := .slots, slotBeat := 0, lowRun := 0
            pdDrv := s.line.image.sends && s.line.image.marks.drop } })) ∧
    (s.line.phase = .slots → p.pdHigh = true → s.line.driveLeft = 0 →
      exec (.midSample p) s = .next { s with
        pins := p
        line := { l with
          pdDrv := if s.line.slotBeat % 3 = 0 then
              s.line.sendsAt (s.line.slotBeat / 3) &&
                s.line.image.bitAt s.straps.stn.val (s.line.slotBeat / 3)
            else s.line.pdDrv } }) ∧
    (s.line.phase = .stop → p.pdHigh = false → s.line.lowRun < 8 → exec (.midSample p) s =
      .next { s with pins := p, line := { l with lowRun := s.line.lowRun + 1 } })

/-- Slot values join the ones read before them, and what a station sends in a round, read back slot by slot, is
what it latched: the marks in their slots, key, count and its own band; the bands of the other stations read
not present. Every field stands in its slots: the ten marks in slots 0 to 9, key and count in 10 to 33, and the
fields of band n from slot 34 + 32n on, each MSB first (R24 to R26, R31, R32). -/
def Obligations.AnImageReadBackIsTheImage : Prop :=
  (∀ (rx : BitVec 290) (b : Bool), (shiftIn rx b).getLsbD 0 = b ∧
    ∀ k, k < 289 → (shiftIn rx b).getLsbD (k + 1) = rx.getLsbD k) ∧
  (∀ rx : BitVec 290,
    rxMarks rx =
      { drop := rx.getMsbD 0, gap := rx.getMsbD 1, offWire := rx.getMsbD 2, regenBar := rx.getMsbD 3
        ack := rx.getMsbD 4, lower := rx.getMsbD 5, cut := rx.getMsbD 6, hold := rx.getMsbD 7
        inrush := rx.getMsbD 8, layover := rx.getMsbD 9 } ∧
    (∀ j, j < 8 → (rxKey rx).getMsbD j = rx.getMsbD (10 + j)) ∧
    (∀ j, j < 16 → (rxCount rx).getMsbD j = rx.getMsbD (18 + j))) ∧
  (∀ (rx : BitVec 290) (n : Fin 8),
    let slot := fun k : Nat => rx.getMsbD (34 + 32 * n.val + k)
    let b := rxBand rx n
    b.present = slot 0 ∧ (∀ j, j < 3 → b.role.getMsbD j = slot (1 + j)) ∧ b.unsettled = slot 4 ∧
      (∀ j, j < 2 → b.tier.getMsbD j = slot (5 + j)) ∧ (∀ j, j < 10 → b.claim.getMsbD j = slot (7 + j)) ∧
      (∀ j, j < 10 → b.value.getMsbD j = slot (17 + j)) ∧
      b.alarms = ⟨slot 27, slot 28, slot 29, slot 30, slot 31⟩) ∧
  ∀ (im : Image) (b : Band) (n : Fin 8) (rx : BitVec 290), im.band = some b →
    (∀ slot, slot < 290 → rx.getMsbD slot = im.bitAt n.val slot) →
    rxMarks rx = im.marks ∧ rxKey rx = im.key ∧ rxCount rx = im.count ∧ rxBand rx n = b ∧
      ∀ m, m ≠ n → (rxBand rx m).present = false

/-! ## The start frame event, the stop frame, recovery, RESYNC -/

/-- START_FRAME_EVENT, the mid sample that brings the low run to 4: a LISTEN station may become JOINING; the
image is latched, the comparisons, contests and start reasons move; the owners act at the event: candidacy,
acknowledge, acknowledgeable drops, cut hold, group-B capture (R6, R8, R28, R29, R35, R66, R95, R119, R142,
R170, R171).
Model's choices: the levels a row carries (log 4), a run counted in RESYNC (log 17). -/
def Obligations.StartFrameEventLatchesTheImage : Prop :=
  ∀ (i : Instr) (p : Pins) (s : State), sampleRow i (.startFrameEvent p) p s → p.pdHigh = false →
    s.line.lowRun = 3 →
    (s.line.phase = .frame ∨ (s.line.phase = .resync ∧ s.line.ignoreRun = false)) →
    let j : JoinState :=
      if s.line.join = .listen ∧ s.line.heard = 2 ∧ s.port.locked = true ∧ s.roleAssigned = true then .joining
      else s.line.join
    let u : State := { s with pins := p, line := { s.line with join := j } }
    let takes : Bool := decide (0 < s.line.driveLeft) || j.sending
    ∃ t, exec i s = .next t ∧
      t.line = { s.line with
        driver := .highHalf, pdLift := false, lastMidHigh := false, phase := .frame, lowRun := 4, highRun := 0
        ignoreRun := false, keepaliveDue := false, wakeDue := false, join := j, takesPart := takes
        droveFrame := decide (0 < s.line.driveLeft)
        image := if j.sending then ⟨true, u.marksNow, u.keyNow, s.line.roundCount, some u.bandNow⟩
          else Image.empty
        keyIn := j.sending && decide (u.keyNow ≠ 0)
        countIn := j.sending
        rx := 0
        ownClashed := false
        lastBand := if j.sending then some u.bandNow else s.line.lastBand
        prevBand := if j.sending then s.line.lastBand else s.line.prevBand
        lastMarks := if takes then (if j.sending then u.marksNow else Marks.empty) else s.line.lastMarks } ∧
      t.arb = { s.arb with waited := if u.candidate then s.arb.waited else 0 } ∧
      t.pole = (if s.isPole then { s.pole with
          pos := { s.pole.pos with ackable := s.pole.pos.unacked }
          neg := { s.pole.neg with ackable := s.pole.neg.unacked } } else s.pole) ∧
      t.slate = (if s.isCab then { s.slate with
          ackPending := s.slate.ackPending && !j.sending
          rearm := if s.slate.rearm = .disarmed ∧ p.ri0 = false then .releasing else s.slate.rearm }
        else s.slate) ∧
      t.scan = (if s.usesGroupB = false then s.scan
        else if s.scan.bRunning then { s.scan with bWaiting := true }
        else match s.scan.conv with
          | some _ => { s.scan with bHeld := some p.an4, bRunning := true }
          | none => { s.scan with conv := some ⟨.an4, p.an4⟩, bHeld := none, bRunning := true }) ∧
      (s.budget.limp = false →
        t.budget = { s.budget with cutHold := s.budget.cutHold - 1 } ∧ t.ceil = s.ceil ∧
          t.feed = s.feed ∧ t.port = s.port) ∧
      t.view = s.view ∧ t.wakeDet = s.wakeDet ∧ t.straps = s.straps ∧ t.pins = p ∧ t.pending = s.pending

/-- The limp evaluation that a start frame event makes in limp: grant set, ceiling with the limp rise, feeders shed
to the grant from INRUSH and then from the highest index, and the lowest WAITING feeder brought to ON if it then
fits, each move with its FEEDER notice (R123, R133, R159, R162, R163).
Model's choices: the grant of a station strapped 0, 6 or 7 (log 38), feeders of nominal 0 (log 39). -/
def Obligations.LimpEvaluationAtAStartFrame : Prop :=
  ∀ (i : Instr) (p : Pins) (s : State), sampleRow i (.startFrameEvent p) p s → p.pdHigh = false →
    s.line.lowRun = 3 →
    (s.line.phase = .frame ∨ (s.line.phase = .resync ∧ s.line.ignoreRun = false)) →
    s.budget.limp = true →
    let g := limpShare s s.feed
    let n := s.line.roundCount.toNat
    let d := s.port.demand
    let step := s.port.settings.riseStep
    let cut := p.eCut || s.budget.ownOverdraw || s.ceil.limpCut
    ∃ t, exec i s = .next t ∧
      t.budget = { limpSet s g with cutHold := s.budget.cutHold - 1 } ∧ portKept s t s.port.lineUp ∧
      (s.ownGrant ≠ g → noticed t ⟨.grant, 1, g, n⟩) ∧
      (s.hasCeiling = true →
        (cut = true → t.ceil = { s.ceil with ceiling := 0, st := .heldZero, cutHeld := true }) ∧
        (cut = false → s.ceil.ceiling = 0 → 0 < d → 0 < g →
          t.ceil = { s.ceil with ceiling := min g step, st := .running, cutHeld := false }) ∧
        (cut = false → s.ceil.ceiling = 0 → d = 0 ∨ g = 0 → s.ceil.st = .heldZero ∨ s.ceil.st = .waiting →
          t.ceil = { s.ceil with st := .heldZero, cutHeld := false }) ∧
        (cut = false → 0 < g → g < s.ceil.ceiling →
          t.ceil = { s.ceil with ceiling := g, cutHeld := false }) ∧
        (cut = false → g = 0 → 0 < s.ceil.ceiling →
          t.ceil = { s.ceil with ceiling := 0, st := .heldZero, cutHeld := false }) ∧
        (cut = false → 0 < s.ceil.ceiling → s.ceil.ceiling ≤ g → s.ceil.st = .running →
          t.ceil = { s.ceil with ceiling := min g (s.ceil.ceiling + step), cutHeld := false }) ∧
        ((t.ceil.ceiling ≠ s.ceil.ceiling ∨ t.ceil.st ≠ s.ceil.st) →
          noticed t ⟨.ceiling, t.ceil.st.code, t.ceil.ceiling, n⟩)) ∧
      (s.hasCeiling = false → t.ceil = s.ceil) ∧
      (s.isAux = true →
        let nom := s.port.settings.nominal
        let f := shedTable nom s.feed g n
        let next := fun k : Fin 8 => (f.get k).st = .waiting ∧ ∀ l, l < k → (f.get l).st ≠ .waiting
        t.energizedSum ≤ g ∧
        (∀ k, isShed nom s.feed g k = true → noticed t ⟨.feeder, k.val, 256 * 4 + 1, n⟩) ∧
        (∀ k, next k → energizedSum nom f + nom.get k ≤ g →
          t.feed = f.set k { f.get k with st := .on, stamp := n } ∧
            noticed t ⟨.feeder, k.val, 256 * 7 + 3, n⟩) ∧
        (∀ k, next k → g < energizedSum nom f + nom.get k → t.feed = f) ∧
        ((∀ k, (f.get k).st ≠ .waiting) → t.feed = f)) ∧
      (s.isAux = false → t.feed = s.feed)

/-- STOP_FRAME_TEST, the edge after the rest beat of slot 289: a station taking part drives a stop frame of
three beats if it has a stretch reason, of two if it has none; any other drives nothing (R11, R12). Its start
reasons are those that StartFramesLastFourBeats gives (R9).
Model's choices: a changed band counts only in a round with a band of its own (log 11). -/
def Obligations.StopFrameIsTwoOrThreeBeats : Prop :=
  ∀ (i : Instr) (p : Pins) (s : State),
    (edgeRow i p s ∨ (i = .stopFrameTest p ∧ s.line.edgeDue = true)) →
    s.line.phase = .slots → s.line.slotBeat = 869 → s.line.driveLeft = 0 → s.line.recBeat = 0 →
    let u : State := { s with pins := p }
    let m := rxMarks s.line.rx
    let reason : Bool :=
      m.drop || m.gap || m.cut || m.inrush ||
      (s.line.image.band.isSome && decide (s.line.lastBand ≠ s.line.prevBand)) ||
      u.candidate || s.arb.window.isSome ||
      allEight.any (fun k => (s.view.entries.get k).st == .heardOnce) || u.startReason
    exec i s = .next { s with
      pins := p
      line := { s.line with
        driver := .lowHalf, pbDrv := true, pdLift := false, phase := .stop, lowRun := 0
        pdDrv := s.line.takesPart
        driveLeft := if s.line.takesPart then (if reason then 3 else 2) else 0 } }

/-- RECOVERY_END and the edge before it: the second recovery beat follows the first; at its end every station
starts a round in CONTINUOUS mode, and in QUIET mode the line is idle and a station with a start reason may
start at that very edge (R7, R14), by the start reasons that StartFramesLastFourBeats gives (R9).
Model's choices: what a low recovery beat leaves (log 25), RECOVERY kept after a CONTINUOUS edge (log 34). -/
def Obligations.RecoveryEndsByMode : Prop :=
  ∀ (i : Instr) (p : Pins) (s : State), s.line.driveLeft = 0 →
    (edgeRow i p s → s.line.recBeat = 1 → s.line.phase = .recovery →
      exec i s = .next { s with
        pins := p
        line := { s.line with
          driver := .lowHalf, pbDrv := true, pdLift := false, pdDrv := false, recBeat := 2 } }) ∧
    ((edgeRow i p s ∨ (i = .recoveryEnd p ∧ s.line.edgeDue = true)) → s.line.recBeat = 2 →
      (s.line.phase = .recovery ∨ (s.line.phase = .frame ∧ s.line.lowRun = 1)) →
      let u : State := { s with pins := p }
      let starts : Bool :=
        s.line.mode == .continuous ||
        (s.line.phase == .recovery && s.line.lastMidHigh && u.startReason) ||
        (s.line.phase == .frame &&
          (if s.line.join = .lineDown then u.startReasonBut else u.startReason))
      exec i s = .next { s with
        pins := p
        line := { s.line with
          driver := .lowHalf, pbDrv := true, pdLift := false, recBeat := 0
          phase := if s.line.mode = .quiet ∧ s.line.phase = .recovery then .idle else s.line.phase
          driveLeft := if starts then 4 else 0
          pdDrv := starts } })

/-- RESYNC: low samples are counted, a run of 2 or 3 ended by a high sample is a stop frame of another's
round, other runs are ignored, and 880 high samples in a row read as an idle line; a run under way at a line
wake is ignored, and RESYNC begins at the first high sample after it (R15, R182).
Model's choices: where the 880 samples begin (log 17), the run ignored after a line wake (log 18). -/
def Obligations.ResyncFindsTheRoundAgain : Prop :=
  ∀ (i : Instr) (p : Pins) (s : State), s.line.driver = .waitRise → s.line.phase = .resync →
    let l : Line := { s.line with driver := .highHalf, pdLift := false, lastMidHigh := p.pdHigh }
    (p.pdHigh = true → s.line.driveLeft = 0 → s.line.ignoreRun = false →
      ((i = .midSample p ∨ i = .resyncStopFrame p) → s.line.lowRun = 2 ∨ s.line.lowRun = 3 →
        exec i s = .next { s with
          pins := p
          line := { l with
            phase := .recovery, mode := if s.line.lowRun = 2 then .quiet else .continuous
            recBeat := 1, lowRun := 0, highRun := 0 } }) ∧
      (i = .midSample p → s.line.lowRun ≠ 2 → s.line.lowRun ≠ 3 → s.line.highRun < 879 →
        exec i s = .next { s with
          pins := p, line := { l with lowRun := 0, highRun := s.line.highRun + 1 } }) ∧
      ((i = .midSample p ∨ i = .resyncIdle p) → s.line.lowRun ≠ 2 → s.line.lowRun ≠ 3 →
        879 ≤ s.line.highRun →
        exec i s = .next { s with
          pins := p
          line := { l with phase := .idle, mode := .quiet, lowRun := 0, highRun := 0 } })) ∧
    (p.pdHigh = false → i = .midSample p → s.line.ignoreRun = false → s.line.lowRun ≠ 3 → s.line.lowRun < 8 →
      exec i s = .next { s with
        pins := p, line := { l with lowRun := s.line.lowRun + 1, highRun := 0 } }) ∧
    (p.pdHigh = false → i = .midSample p → s.line.ignoreRun = true →
      exec i s = .next { s with pins := p, line := l }) ∧
    (p.pdHigh = true → i = .midSample p → s.line.ignoreRun = true → s.line.driveLeft = 0 →
      (s.line.highRun < 879 → exec i s = .next { s with
        pins := p
        line := { l with ignoreRun := false, lowRun := 0, highRun := s.line.highRun + 1 } }) ∧
      (879 ≤ s.line.highRun → exec i s = .next { s with
        pins := p
        line := { l with ignoreRun := false, phase := .idle, mode := .quiet, lowRun := 0, highRun := 0 } }))

/-- ROUND_DISCARD: a low sample in the slots, a stop frame missing or of one beat: the round is given up, the
discard count adds one, and a third discard in a row is the line fault with subject 5; in LINE_DOWN it sets
the count to 0 (R16, R17, R21); at the entry to LINE_DOWN the view is cleared (R61) and limp entered (R122, R123,
R133, R137, R149, R151, R158, R159, R162, R163).
Model's choices: the low run kept at a third discard (log 8), the bands kept at entry to LINE_DOWN (log 35), the
high samples of RESYNC counted from its entry (log 17), and at entry to limp a RAMPING record that the limp grant
lowers to 0 and a HELD_ZERO or WAITING record left as it is (log 16), the grant of a station strapped 0, 6 or 7
(log 38). -/
def Obligations.DiscardGivesUpTheRound : Prop :=
  ∀ (i : Instr) (p : Pins) (s : State) (run : Nat), sampleRow i (.roundDiscard p) p s →
    ((s.line.phase = .slots ∧ p.pdHigh = false ∧ run = 1) ∨
      (s.line.phase = .stop ∧ p.pdHigh = true ∧ s.line.driveLeft = 0 ∧ s.line.lowRun < 2 ∧ run = 0)) →
    let l : Line := gaveUp { s.line with driver := .highHalf, lastMidHigh := p.pdHigh } run
    (s.line.discards < 2 →
      exec i s = .next { s with pins := p, line := { l with discards := s.line.discards + 1 } }) ∧
    (2 ≤ s.line.discards → s.line.join = .lineDown →
      exec i s = .next { s with pins := p, line := { l with discards := 0 } }) ∧
    (2 ≤ s.line.discards → s.line.join ≠ .lineDown → ∃ t, exec i s = .next t ∧
      t.line = { l with
        discards := 0, join := .lineDown, heard := 0, backoff := 0, layoverCount := 0, layoverRead := false } ∧
      noticed t ⟨.line, 5, 3, s.line.roundCount.toNat⟩ ∧ portKept s t false ∧
      t.view = View.cleared ∧ limpEntered s t p.eCut false)

/-- A line fault: PACE_B_STUCK_LOW, PACE_D_STUCK_LOW and PRESSED_BUT_HIGH at its three sample points, as the
rows or as the edge or sample that shows them: entry to LINE_DOWN; in LINE_DOWN the round in flight is given
up without a notice (R18 to R21, R61, R122, R123, R133, R137, R149, R151, R158, R159, R162, R163).
Model's choices: the run kept at PACE-D stuck low (log 8), an edge that ends at its fault (log 19), the row by its
outcome and the rise awaited (log 1, log 33), the bands kept at entry to LINE_DOWN (log 35), the high samples of
RESYNC counted from its entry (log 17), and at entry to limp a RAMPING record that the limp grant lowers to 0 and a
HELD_ZERO or WAITING record left as it is (log 16), the grant of a station strapped 0, 6 or 7 (log 38). -/
def Obligations.LineFaultEntersLineDown : Prop :=
  ∀ (i : Instr) (p : Pins) (s : State) (cause run : Nat) (d : Driver) (b mid : Bool),
    faultRow i p s cause run d b mid →
    let l : Line := gaveUp { s.line with driver := d, pbDrv := b, lastMidHigh := mid } run
    (s.line.join ≠ .lineDown → ∃ t, exec i s = .next t ∧
      t.line = { l with
        discards := 0, join := .lineDown, heard := 0, backoff := 0, layoverCount := 0, layoverRead := false } ∧
      noticed t ⟨.line, cause, s.line.discards, s.line.roundCount.toNat⟩ ∧ portKept s t false ∧
      t.view = View.cleared ∧ limpEntered s t p.eCut false ∧
      t.pole = { s.pole with lowerHeard := false, heldSpeed := 0 } ∧ t.scan = s.scan ∧ t.slate = s.slate ∧
      t.wakeDet = s.wakeDet ∧ t.straps = s.straps ∧ t.pins = p ∧ t.pending = s.pending) ∧
    (s.line.join = .lineDown → exec i s = .next { s with pins := p, line := { l with discards := 0 } })

/-- CLASH: a released slot of the own band that reads low, while the station sends: it stops driving, becomes
CLASHED with back-off 0, queues LINE subject 6 with the band slot, and enters limp; the round goes on, the
peer view is kept, and so is what it won in the key field (R31, R37, R38, R40, R61, R122, R123, R133, R137, R149,
R151, R158, R159, R162, R163).
Model's choices: the rest of the edge's processing at the same step (log 1), and at entry to limp a RAMPING record
that the limp grant lowers to 0 and a HELD_ZERO or WAITING record left as it is (log 16), the grant of a station
strapped 0, 6 or 7 (log 38). -/
def Obligations.ClashStopsSendingAndEntersLimp : Prop :=
  ∀ (i : Instr) (p : Pins) (s : State),
    (edgeRow i p s ∨ (i = .clash p ∧ s.line.edgeDue = true)) → s.line.phase = .slots →
    s.line.slotBeat % 3 = 0 → s.line.image.sends = true →
    34 + 32 * s.straps.stn.val ≤ s.line.slotBeat / 3 → s.line.slotBeat / 3 < 66 + 32 * s.straps.stn.val →
    p.pdHigh = false → s.line.pdDrv = false → s.line.driveLeft = 0 → s.line.recBeat = 0 →
    ∃ t, exec i s = .next t ∧
      t.line = { s.line with
        driver := .lowHalf, pbDrv := true, pdDrv := false, pdLift := false
        rx := shiftIn s.line.rx true
        image := { s.line.image with sends := false }
        ownClashed := true, join := .clashed, backoff := 0
        slotBeat := s.line.slotBeat + 1 } ∧
      noticed t ⟨.line, 6, s.line.slotBeat / 3 - (34 + 32 * s.straps.stn.val), s.line.roundCount.toNat⟩ ∧
      limpEntered s t p.eCut s.ceil.regenOk ∧
      t.view = s.view ∧ t.pole = s.pole ∧ t.scan = s.scan ∧ t.slate = s.slate ∧ t.wakeDet = s.wakeDet ∧
      portKept s t s.port.lineUp ∧ t.straps = s.straps ∧ t.pins = p ∧ t.pending = s.pending

/-! ## The completion of a good round -/

/-- ROUND_COMPLETION: the line engine's own moves: recovery, mode by the length of the stop, counts, round
count, join state with its LINE notice, LINE_UP, and limp left with CLASHED and LINE_DOWN (R13, R14, R23, R33,
R35, R36, R38, R41, R124, R178, R184).
Model's choices: the stamps of the LINE notices (log 12), limp left before the view update and the back-off
kept (log 32). -/
def Obligations.CompletionMovesLineAndJoin : Prop :=
  ∀ (i : Instr) (p : Pins) (s : State), completionRow i p s → staysAwake s →
    let m := rxMarks s.line.rx
    let n := (rxCount s.line.rx + 1).toNat
    ∃ t, exec i s = .next t ∧
      t.line = { s.line with
        driver := .highHalf, pdLift := false, lastMidHigh := true, phase := .recovery, recBeat := 1
        mode := if s.line.lowRun = 2 then .quiet else .continuous
        lowRun := 0, discards := 0, keepalive := some s.port.settings.quietMs
        takesPart := false, droveFrame := false
        roundCount := rxCount s.line.rx + 1
        layoverRead := m.layover
        layoverCount := if m.layover && !m.hold then min 2 (s.line.layoverCount + 1) else 0
        join := t.line.join, heard := t.line.heard, backoff := t.line.backoff } ∧
      (s.line.join = .listen → t.line.join = .listen ∧ t.line.heard = min 2 (s.line.heard + 1) ∧
        t.line.backoff = s.line.backoff) ∧
      (s.line.join = .joining → t.line.join = .joined ∧ t.line.heard = s.line.heard ∧
        t.line.backoff = s.line.backoff ∧ noticed t ⟨.line, 8, (rxCount s.line.rx).toNat, n⟩) ∧
      (s.line.join = .joined → t.line.join = .joined ∧ t.line.heard = s.line.heard ∧
        t.line.backoff = s.line.backoff) ∧
      (s.line.join = .clashed → s.line.backoff < 15 → t.line.join = .clashed ∧
        t.line.heard = s.line.heard ∧ t.line.backoff = s.line.backoff + 1) ∧
      (s.line.join = .clashed → 15 ≤ s.line.backoff → t.line.join = .listen ∧ t.line.heard = 0 ∧
        t.budget.limp = false ∧ noticed t ⟨.line, 7, 16, n⟩) ∧
      (s.line.join = .lineDown → t.line.join = .listen ∧ t.line.heard = 1 ∧ t.line.backoff = 0 ∧
        t.budget.limp = false ∧ noticed t ⟨.line, 0, 0, n⟩) ∧
      portKept s t (s.port.lineUp || s.roleAssigned) ∧ t.scan = s.scan ∧ t.wakeDet = s.wakeDet ∧
      (s.hasCeiling = false → t.ceil = s.ceil) ∧ (s.isAux = false → t.feed = s.feed) ∧
      (s.isCab = false → t.slate = s.slate) ∧ t.straps = s.straps ∧ t.pins = p ∧ t.pending = s.pending

/-- What a completed round does to the entry of each position: the tables of hearing, of entry states and of
adoption, and the PEER notice of a change of state or role. -/
def Obligations.EachEntryMovesByItsHearing : Prop :=
  ∀ (i : Instr) (p : Pins) (s : State), completionRow i p s → staysAwake s →
    ∃ t, exec i s = .next t ∧ ∀ k : Fin 8,
      let e := s.view.entries.get k
      let e' := t.view.entries.get k
      let b := rxBand s.line.rx k
      let r := b.role.toNat
      let c := b.claim.toNat
      let v := b.value.toNat
      let heard : Prop := b.present = true ∧ 1 ≤ r ∧ r ≤ 5
      let again : Prop := (e.st = .heardOnce ∨ e.st = .present) ∧ e.role = r
      (¬heard → e.st = .absent → e' = e) ∧
      (¬heard → e.st = .heardOnce → e' = PeerEntry.cleared) ∧
      (¬heard → e.st = .present → e.miss < 2 → e' = { e with miss := e.miss + 1 }) ∧
      (¬heard → e.st = .present → 2 ≤ e.miss → e' = { e with st := .silent, miss := 3 }) ∧
      (¬heard → e.st = .silent → e' = e) ∧
      (heard → ¬again → e' =
        { st := .heardOnce, role := r, tier := b.tier.toNat, unsettled := b.unsettled, alarms := b.alarms
          lastClaim := c, prevClaim := none, lastValue := v, prevValue := none
          claim := c, value := if r = 1 ∨ r = 4 then 0 else v, miss := 0 }) ∧
      (heard → again → e' =
        { st := .present, role := r, tier := b.tier.toNat, unsettled := b.unsettled, alarms := b.alarms
          lastClaim := c, prevClaim := some e.lastClaim, lastValue := v, prevValue := some e.lastValue
          claim := max c e.lastClaim
          value := if r = 1 ∨ r = 4 then min v e.lastValue else max v e.lastValue, miss := 0 }) ∧
      ((e'.st ≠ e.st ∨ (e.st ≠ .absent ∧ e'.role ≠ e.role)) →
        noticed t ⟨.peer, k.val, 256 * e'.role + e'.st.code, (rxCount s.line.rx).toNat⟩)

/-- The conditions that a completed round publishes from its marks and the entries it leaves. -/
def Obligations.PublishedConditionsFollowTheEntries : Prop :=
  ∀ (i : Instr) (p : Pins) (s : State), completionRow i p s → staysAwake s →
    let m := rxMarks s.line.rx
    ∃ t, exec i s = .next t ∧
      let e := t.view.entries.get
      let isPole := fun k : Fin 8 => (e k).st = .present ∧ (e k).role = 1
      (∀ k, t.view.pole = some k ↔ isPole k ∧ ∀ l, l < k → ¬isPole l) ∧
      (t.view.pole = none ↔ ∀ k, ¬isPole k) ∧
      (t.view.lineOff = true ↔ m.offWire = true ∨ m.gap = true ∨ t.view.pole = none ∨
        ∃ k, t.view.pole = some k ∧ (e k).unsettled = true) ∧
      (∀ k, t.view.pole = some k → t.view.u = (e k).value) ∧ (t.view.pole = none → t.view.u = 0) ∧
      (∀ k, (e k).role = 2 → (e k).st = .present ∨ (e k).st = .heardOnce → (e k).value ≤ t.view.maxSpeed) ∧
      (t.view.maxSpeed = 0 ∨ ∃ k, (e k).role = 2 ∧ ((e k).st = .present ∨ (e k).st = .heardOnce) ∧
        (e k).value = t.view.maxSpeed) ∧
      t.view.offerSum = min 1023
        (Eight.ofFn (fun k => if (e k).role = 4 ∧ (e k).st = .present then (e k).value else 0)).sum ∧
      t.view.latest = some m

/-- The evaluation that a station JOINING or JOINED makes at a completion: line availability, availability,
the grants tier by tier, which never exceed it nor a position's adopted claim, and the GRANT notice; any other
station keeps its grant set. -/
def Obligations.BudgetEvaluationSharesAvailability : Prop :=
  ∀ (i : Instr) (p : Pins) (s : State), completionRow i p s → staysAwake s →
    ∃ t, exec i s = .next t ∧
      (s.line.join ≠ .joining → s.line.join ≠ .joined →
        t.budget = { s.budget with limp := t.budget.limp }) ∧
      (s.line.join = .joining ∨ s.line.join = .joined →
        let x := s.port.settings
        let v := t.view
        let lav := if v.lineOff = true ∨ v.u ≤ x.uFloor then 0
          else if x.uKnee ≤ v.u then x.iCap
          else x.iCap * (v.u - x.uFloor) / (x.uKnee - x.uFloor)
        let claims := fun (tier : Nat) (k : Fin 8) =>
          if (v.entries.get k).st ≠ .absent ∧ (v.entries.get k).tier = tier then (v.entries.get k).claim else 0
        let share := fun (r tier : Nat) (k : Fin 8) =>
          if (Eight.ofFn (claims tier)).sum ≤ r then claims tier k
          else r * claims tier k / (Eight.ofFn (claims tier)).sum
        let a := lav + v.offerSum
        let r2 := a - (Eight.ofFn (share a 3)).sum
        let r1 := r2 - (Eight.ofFn (share r2 2)).sum
        t.budget = { s.budget with
          kind := .view, stamp := (rxCount s.line.rx).toNat, lineOffUsed := v.lineOff, uUsed := v.u
          lav := lav, offerUsed := v.offerSum, avail := a
          grants := Eight.ofFn (fun k => share a 3 k + share r2 2 k + share r1 1 k)
          remainder := r1 - (Eight.ofFn (share r1 1)).sum, limp := false } ∧
        t.budget.grants.sum ≤ t.budget.avail ∧ (∀ k, t.budget.grants.get k ≤ (v.entries.get k).claim) ∧
        (t.ownGrant ≠ s.ownGrant → noticed t ⟨.grant, 0, t.ownGrant, (rxCount s.line.rx).toNat⟩))

/-- In every evaluation on a view update the eight grants and the remainder make up the availability, and no
position is granted more than its adopted claim. -/
def Obligations.GrantsStayWithinAvailabilityAndClaims : Prop :=
  ∀ (i : Instr) (p : Pins) (s : State), completionRow i p s → staysAwake s →
    s.line.join = .joining ∨ s.line.join = .joined →
    ∃ t, exec i s = .next t ∧ t.budget.kind = .view ∧
      t.budget.grants.sum + t.budget.remainder = t.budget.avail ∧
      t.budget.grants.sum ≤ t.budget.avail ∧
      ∀ k, t.budget.grants.get k ≤ (t.view.entries.get k).claim

/-- The restart arbiter at a completion: its own window runs down, ends or is abandoned, or one is taken or
declined; rounds waited; the holder view; the WINDOW notice (R142 to R147, R150 to R152).
Model's choices: the records of roles without an arbiter stay as at power-on (log 7). -/
def Obligations.RestartWindowAtACompletion : Prop :=
  ∀ (i : Instr) (p : Pins) (s : State), completionRow i p s → staysAwake s →
    let m := rxMarks s.line.rx
    let n := (rxCount s.line.rx).toNat
    let stops := m.hold || m.cut || m.offWire || m.gap
    let clean := !m.inrush && !stops
    let wins : Prop := s.contends = true ∧ s.line.image.key ≠ 0 ∧ s.line.keyIn = true ∧ clean = true ∧
      (s.line.join = .joining ∨ s.line.join = .joined)
    let seen : Holder := if clean then (if rxKey s.line.rx = 0 then .free
        else .station (eightOf (rxKey s.line.rx).toNat))
      else if stops then .free
      else if s.arb.holder = .free then .notKnown else s.arb.holder
    let more := if s.line.image.key = 0 then s.arb.waited else min 63 (s.arb.waited + 1)
    ∃ t, exec i s = .next t ∧
      (∀ w, s.arb.window = some w →
        (s.line.image.marks.inrush = false → t.arb = ⟨more, some w, seen⟩) ∧
        (s.line.image.marks.inrush = true → stops = true → t.arb = ⟨more, none, .free⟩ ∧
          noticed t ⟨.window, 2, 256 * (w.len - w.left + 1) + 9, n⟩) ∧
        (s.line.image.marks.inrush = true → stops = false → 1 < w.left →
          t.arb = ⟨more, some { w with left := w.left - 1 }, seen⟩) ∧
        (s.line.image.marks.inrush = true → stops = false → w.left ≤ 1 →
          t.arb = ⟨more, none, .free⟩ ∧ noticed t ⟨.window, 1, 256 * w.len + 9, n⟩)) ∧
      (s.arb.window = none →
        (¬wins → t.arb = ⟨more, none, seen⟩ ∧
          (seen ≠ s.arb.holder → noticed t ⟨.window, seen.subject, seen.code, n⟩)) ∧
        (wins → s.isAux = false →
          t.arb = ⟨0, some ⟨s.port.settings.rampWindow, s.port.settings.rampWindow, none⟩, .self⟩ ∧
            noticed t ⟨.window, 0, 256 * s.port.settings.rampWindow + 8, n⟩) ∧
        (wins → s.isAux = true → ∀ k, s.nextFeeder = some k →
          s.energizedSum + s.port.settings.nominal.get k ≤ t.ownGrant →
          t.arb = ⟨0, some ⟨s.port.settings.inrush.get k, s.port.settings.inrush.get k, some k⟩, .self⟩ ∧
            noticed t ⟨.window, 0, 256 * s.port.settings.inrush.get k + 8, n⟩) ∧
        (wins → s.isAux = true →
          (∀ k, s.nextFeeder = some k →
            ¬(s.energizedSum + s.port.settings.nominal.get k ≤ t.ownGrant)) →
          t.arb = ⟨more, none, .free⟩ ∧ noticed t ⟨.window, 5, 9, n⟩))

/-- The ceiling of a DRIVE or STORE at a completion, and REGEN_OK of a DRIVE: the first case that fits, with
the window taken, ended or abandoned at the same update; in limp only CUT read acts (R129, R130, R133, R135,
R137). -/
def Obligations.CeilingAtACompletion : Prop :=
  ∀ (i : Instr) (p : Pins) (s : State), completionRow i p s → staysAwake s → s.hasCeiling = true →
    let m := rxMarks s.line.rx
    let stops := m.hold || m.cut || m.offWire || m.gap
    let cut := m.cut || p.eCut || s.budget.ownOverdraw
    let d := s.port.demand
    let c := s.ceil
    ∃ t, exec i s = .next t ∧
      let g := t.ownGrant
      let took : Prop := s.arb.window = none ∧ t.arb.window ≠ none
      let closed : Prop := s.arb.window ≠ none ∧ t.arb.window = none
      let zero : CeilState := if 0 < d ∧ 0 < g then .waiting else .heldZero
      let st : CeilState := if took ∧ c.st = .waiting ∧ 0 < d ∧ 0 < g then .ramping else c.st
      let high := min g (c.ceiling + s.port.settings.riseStep)
      (t.budget.limp = false →
        (cut = true → t.ceil.ceiling = 0 ∧ t.ceil.st = .heldZero ∧ t.ceil.cutHeld = true) ∧
        (cut = false → t.ceil.cutHeld = false) ∧
        (cut = false → closed → stops = true → t.ceil.ceiling = 0 ∧ t.ceil.st = zero) ∧
        (cut = false → ¬(closed ∧ stops = true) → g < c.ceiling → 0 < g →
          t.ceil.ceiling = g ∧ t.ceil.st = if closed ∧ st = .ramping then .running else st) ∧
        (cut = false → ¬(closed ∧ stops = true) → g < c.ceiling → g = 0 →
          t.ceil.ceiling = 0 ∧ t.ceil.st = .heldZero) ∧
        (cut = false → ¬(closed ∧ stops = true) → c.ceiling ≤ g → st = .ramping ∨ st = .running →
          t.ceil.ceiling = high ∧
            t.ceil.st = if closed ∧ st = .ramping then (if 0 < high then .running else zero) else st) ∧
        (cut = false → ¬(closed ∧ stops = true) → c.ceiling ≤ g → st = .waiting ∨ st = .heldZero →
          t.ceil.ceiling = 0 ∧ t.ceil.st = zero)) ∧
      (t.budget.limp = true →
        t.ceil.limpCut = m.cut ∧
        (m.cut = true → t.ceil.ceiling = 0 ∧ t.ceil.st = .heldZero ∧ t.ceil.cutHeld = true) ∧
        (m.cut = false → t.ceil.ceiling = c.ceiling ∧ t.ceil.st = c.st ∧ t.ceil.cutHeld = c.cutHeld)) ∧
      ((t.ceil.ceiling ≠ c.ceiling ∨ t.ceil.st ≠ c.st) →
        noticed t ⟨.ceiling, t.ceil.st.code, t.ceil.ceiling, (rxCount s.line.rx).toNat⟩) ∧
      (s.isDrive = true → t.ceil.regenOk = (!m.regenBar && !t.view.lineOff))

/-- The feeder table of an AUX at a completion, not in limp: the window moves its feeder (taken to INRUSH, ended to
ON, abandoned to WAITING), a cut then sheds a TIER 1 table, and what is left is shed to the own grant from INRUSH
and then from the highest index, no feeder that fits being shed; each move has its FEEDER notice (R157 to R160,
R163). -/
def Obligations.FeedersAtACompletion : Prop :=
  ∀ (i : Instr) (p : Pins) (s : State), completionRow i p s → staysAwake s → s.isAux = true →
    let m := rxMarks s.line.rx
    let n := (rxCount s.line.rx).toNat
    let stops := m.hold || m.cut || m.offWire || m.gap
    let nom := s.port.settings.nominal
    ∃ t, exec i s = .next t ∧
      (t.budget.limp = true → t.feed = s.feed) ∧
      (t.budget.limp = false →
        let taken := fun k : Fin 8 => s.arb.window = none ∧ t.arb.window.bind Window.feeder = some k
        let closed := fun k : Fin 8 => t.arb.window = none ∧ s.arb.window.bind Window.feeder = some k ∧
          (s.feed.get k).st = .inrush
        let cut : Prop := (m.cut = true ∨ p.eCut = true) ∧ s.port.settings.tier = 1
        let moved : Eight Feeder := Eight.ofFn (fun k =>
          let f := s.feed.get k
          if taken k then { f with st := .inrush, stamp := n }
          else if closed k then { f with st := if stops then .waiting else .on, stamp := n }
          else f)
        let left : Eight Feeder := Eight.ofFn (fun k =>
          let f := moved.get k
          if cut ∧ f.st.energized = true then { f with st := .waiting, stamp := n } else f)
        t.feed = shedTable nom left t.ownGrant n ∧ t.energizedSum ≤ t.ownGrant ∧
        (cut → ∀ k, (t.feed.get k).st.energized = false) ∧
        (∀ k, taken k → (s.feed.get k).st = .waiting ∧ noticed t ⟨.feeder, k.val, 256 * 1 + 2, n⟩) ∧
        (∀ k, closed k → noticed t ⟨.feeder, k.val, if stops then 256 * 3 + 1 else 256 * 2 + 3, n⟩) ∧
        (∀ k, cut → (moved.get k).st.energized = true → noticed t ⟨.feeder, k.val, 256 * 5 + 1, n⟩) ∧
        (∀ k, isShed nom left t.ownGrant k = true → noticed t ⟨.feeder, k.val, 256 * 4 + 1, n⟩))

/-- Pole watch at a completion at the POLE: LOWER heard and held speed are taken, a lowered pole's gap is
over unless the station is SETTLING or its records are still frozen by a layover, and an acknowledge clears what the
start frame event made acknowledgeable (R80, R88, R96, R104). -/
def Obligations.PoleWatchAtACompletion : Prop :=
  ∀ (i : Instr) (p : Pins) (s : State), completionRow i p s → staysAwake s →
    let m := rxMarks s.line.rx
    let n := (rxCount s.line.rx).toNat
    let lowered := fun x : PoleRec =>
      if m.lower = true ∧ s.scan.settled = true ∧ s.pole.paused = false ∧ x.st.isGap = true then
        { x with st := .seeking, stamp := n } else x
    let acked := fun x : PoleRec =>
      if m.ack = true ∧ x.ackable = true then { x with unacked := false } else x
    ∃ t, exec i s = .next t ∧
      (s.isPole = true →
        t.pole = { s.pole with
          lowerHeard := m.lower, heldSpeed := t.view.maxSpeed
          pos := acked (lowered s.pole.pos), neg := acked (lowered s.pole.neg) } ∧
        (∀ g l, s.pole.pos.st = .gap g l → m.lower = true → s.scan.settled = true → s.pole.paused = false →
          noticed t ⟨.pole, 1, g - l, n⟩) ∧
        (∀ g l, s.pole.neg.st = .gap g l → m.lower = true → s.scan.settled = true → s.pole.paused = false →
          noticed t ⟨.pole, 17, g - l, n⟩) ∧
        (m.ack = true → s.pole.pos.ackable = true → s.pole.pos.unacked = true →
          noticed t ⟨.pole, 8, 0, n⟩) ∧
        (m.ack = true → s.pole.neg.ackable = true → s.pole.neg.unacked = true →
          noticed t ⟨.pole, 24, 0, n⟩)) ∧
      (s.isPole = false → t.pole = s.pole)

/-- The slate of a CAB at a completion: each entry takes the level step and, if the round carried ACK, the
acknowledge step; every condition without an entry is entered while there is room; slate-full, re-arm and
SOUNDER follow. Each change of an entry, of slate-full and of SOUNDER has its SLATE notice (R165, R167 to R170, R172,
R175).
Model's choices: a sound delay or a SOUNDER minimum of 0 (log 24), SOUNDER at an update that acknowledges as well
(log 26). -/
def Obligations.SlateAtACompletion : Prop :=
  ∀ (i : Instr) (p : Pins) (s : State), completionRow i p s → staysAwake s → s.isCab = true →
    let m := rxMarks s.line.rx
    let x := s.port.settings
    ∃ t, exec i s = .next t ∧
      let holds := condition t.view.entries
      let level := fun e : SlateEntry =>
        match e.st, holds e.source e.kind with
        | .raised, true => some e
        | .raised, false =>
          if latched x.latchMask e.kind then some { e with st := .lapsed, delay := none } else none
        | .acked, true => some e
        | .acked, false => none
        | .lapsed, true => some { e with
            st := .raised, rep := min 15 (e.rep + 1)
            delay := if x.soundDelay = 0 then none else some x.soundDelay }
        | .lapsed, false => some e
      let acked := fun e : SlateEntry =>
        match e.st with
        | .raised => if m.ack then some { e with st := .acked, delay := none } else some e
        | .lapsed => if m.ack then none else some e
        | .acked => some e
      let kept := s.slate.entries.filterMap (fun e => (level e).bind acked)
      let wanted := allPairs.filter (fun c =>
        holds c.1 c.2 && !kept.any (fun e => e.source == c.1 && e.kind == c.2))
      let raised := t.slate.entries.any (fun e => e.st == .raised)
      t.slate.entries = kept ++ (wanted.take (12 - kept.length)).map (fun c =>
        { source := c.1, kind := c.2, st := .raised, stamp := (rxCount s.line.rx).toNat, rep := 0
          delay := if x.soundDelay = 0 then none else some x.soundDelay }) ∧
      t.slate.full = decide (12 - kept.length < wanted.length) ∧
      t.slate.ackPending = s.slate.ackPending ∧
      t.slate.rearm = (if s.slate.rearm = .releasing ∧ p.ri0 = false then .armed else s.slate.rearm) ∧
      (let n := (rxCount s.line.rx).toNat
       let tells := fun (subject : Nat) (e : SlateEntry) =>
         noticed t ⟨.slate, subject, 256 * e.source.val + 16 * e.rep + kindCode e.kind, n⟩
       (∀ e ∈ s.slate.entries,
         (level e = none → tells 4 e) ∧
         (∀ e', level e = some e' →
           (e.st = .lapsed → e'.st = .raised → tells 1 e') ∧
           (e.st = .raised → e'.st = .lapsed → tells 2 e') ∧
           (m.ack = true → e'.st = .raised → tells 3 { e' with st := .acked, delay := none }) ∧
           (m.ack = true → e'.st = .lapsed → tells 4 e'))) ∧
       (∀ c ∈ wanted.take (12 - kept.length), noticed t ⟨.slate, 0, 256 * c.1.val + kindCode c.2, n⟩) ∧
       (s.slate.full = false → t.slate.full = true →
         noticed t ⟨.slate, 5, wanted.length - (12 - kept.length), n⟩) ∧
       (s.slate.full = true → t.slate.full = false → noticed t ⟨.slate, 6, 0, n⟩)) ∧
      (let n := (rxCount s.line.rx).toNat
       let calls : Prop := t.slate.full = true ∨ (x.soundDelay = 0 ∧
         (wanted.take (12 - kept.length) ≠ [] ∨
           ∃ e ∈ s.slate.entries, e.st = .lapsed ∧ holds e.source e.kind = true))
       (s.slate.sounder = false → ¬calls →
         t.slate.sounder = false ∧ t.slate.minLeft = s.slate.minLeft ∧ t.slate.onMs = s.slate.onMs) ∧
       (s.slate.sounder = false → calls →
         t.slate.minLeft = (if x.soundMin = 0 then none else some x.soundMin) ∧ t.slate.onMs = 0 ∧
         noticed t ⟨.slate, 7, 0, n⟩ ∧
         (t.slate.sounder = true ↔ raised = true ∨ t.slate.full = true ∨ x.soundMin ≠ 0) ∧
         (t.slate.sounder = false → noticed t ⟨.slate, 8, 0, n⟩)) ∧
       (s.slate.sounder = true →
         t.slate.minLeft = s.slate.minLeft ∧ t.slate.onMs = s.slate.onMs ∧
         (t.slate.sounder = true ↔ raised = true ∨ t.slate.full = true ∨ s.slate.minLeft ≠ none) ∧
         (t.slate.sounder = false → noticed t ⟨.slate, 8, s.slate.onMs, n⟩)))

/-! ## Layover -/

/-- The second round in a row with LAYOVER and without HOLD: the station enters ASLEEP, each block as its
chapter gives and with the notices of the entry, and an asserted WAKE_IN or a CAB's released LAYOVER_IN wakes it at
once (R61, R77, R104, R113, R125, R139, R149, R151, R163, R164, R175 to R181). u is the state after the view update,
before the entry: what the same completion leaves where the layover count stood at 0.
Model's choices: the stamps and notices at the entry (log 12, log 14), fields without a given value (log 5). -/
def Obligations.SecondLayoverRoundEntersAsleep : Prop :=
  ∀ (i : Instr) (p : Pins) (s : State), completionRow i p s →
    (rxMarks s.line.rx).layover = true → (rxMarks s.line.rx).hold = false → 1 ≤ s.line.layoverCount →
    let stays : Prop := p.wakeIn = false ∧ (s.isCab = true → p.ri2 = true)
    let stowed := fun (x : PoleRec) (z : Zone) =>
      s.isPole && (match x.st with
        | .lowered => true
        | .retrieved _ => true
        | _ => z == .stowed)
    (∃ u t, exec i { s with line := { s.line with layoverCount := 0 } } = .next u ∧ exec i s = .next t ∧
      sleepNoticed u t ∧ (stays → fellAsleep u t p) ∧
      (¬stays → ∃ v, fellAsleep u v p ∧ woken v t p true)) ∧
    (stays → ∃ t, exec i s = .next t ∧
      t.line = { s.line with
        driver := .stopped, pdDrv := false, pdLift := false, lastMidHigh := true
        phase := .recovery, recBeat := 0, driveLeft := 0
        mode := if s.line.lowRun = 2 then .quiet else .continuous
        lowRun := 0, discards := 0, keepalive := none, takesPart := false, droveFrame := false
        roundCount := rxCount s.line.rx + 1, layoverRead := false, layoverCount := 2
        join := .asleep, heard := 0, backoff := 0 } ∧
      portKept s t false ∧ t.view = View.cleared ∧ t.arb = ⟨0, none, .free⟩ ∧
      t.budget = { Budget.reset with
        stamp := t.budget.stamp, trip := s.budget.trip, lastI := s.budget.lastI } ∧
      (s.hasCeiling = true → t.ceil = ⟨0, .heldZero, p.eCut, false, false⟩) ∧
      (s.hasCeiling = false → t.ceil = { s.ceil with regenOk := false }) ∧
      (s.isAux = true → ∀ k, (t.feed.get k).st.energized = false ∧
        ((s.feed.get k).st.energized = false → (t.feed.get k).st = (s.feed.get k).st) ∧
        (t.feed.get k).enable = (s.feed.get k).enable) ∧
      (s.isAux = false → (∀ w, s.arb.window = some w → w.feeder = none) → t.feed = s.feed) ∧
      t.scan = { s.scan with bWaiting := false } ∧
      (s.isPole = true → t.pole.paused = true ∧ t.pole.pos.ackable = false ∧ t.pole.neg.ackable = false ∧
        t.pole.lowerHeard = false ∧ t.pole.heldSpeed = 0 ∧ t.pole.arcCut = s.pole.arcCut ∧
        t.pole.arcMin = s.pole.arcMin ∧ t.pole.pos.droppedOpen = s.pole.pos.droppedOpen ∧
        t.pole.neg.droppedOpen = s.pole.neg.droppedOpen) ∧
      (s.isPole = false → t.pole = { s.pole with lowerHeard := false, heldSpeed := 0 }) ∧
      (s.isCab = false → t.slate = s.slate) ∧
      (s.isCab = true → t.slate.sounder = false ∧ t.slate.minLeft = none ∧ t.slate.ackPending = false ∧
        t.slate.rearm = .armed ∧ t.lamp = false ∧
        ∀ e ∈ t.slate.entries, e.st = .raised → e.delay = none) ∧
      t.wakeDet = ⟨true, stowed s.pole.pos s.scan.angPos.zone, stowed s.pole.neg s.scan.angNeg.zone⟩ ∧
      t.straps = s.straps ∧ t.pins = p ∧ t.pending = s.pending) ∧
    (¬stays → ∃ t, exec i s = .next t ∧ t.line.join = .listen ∧ t.line.wakeDue = true ∧
      t.line.phase = .resync ∧ t.line.keepalive = some s.port.settings.quietMs ∧ portKept s t false ∧
      t.scan.settled = false ∧ t.wakeDet.armed = false ∧ t.view = View.cleared)

/-- The own wake causes (an edge of WAKE_IN, the release of LAYOVER_IN at a CAB, the WAKE command) wake a sleeping
station; at an awake one they change nothing but the input levels and, for the command, the port's intake.
LINE_WAKE, a falling edge on PACE-D, wakes it by line: no wake start reason, and the low run under way is
ignored; at a CAB with slate-full set SOUNDER comes ON with its minimum timer and SLATE notice (R172, R175, R176,
R180 to R182).
Model's choices: a sound delay or a SOUNDER minimum of 0 at a wake (log 24), the stamp of its notice (log 12), a row whose event cannot occur (log 1), the run under
way (log 18), the slot beat count and the slot values read kept (log 5), and the last mid sample taken as not high
until the first one after the wake (log 17). -/
def Obligations.WakesOfASleepingStation : Prop :=
  (∀ (p : Pins) (s : State),
     (s.line.join = .asleep →
       (p.wakeIn = true → ∃ t, exec (.wakeInEdge p) s = .next t ∧ woken s t p true) ∧
       (s.isCab = true → p.ri2 = false → ∃ t, exec (.layoverInEdge p) s = .next t ∧ woken s t p true) ∧
       (∃ t, exec (.wakeCommand p) s = .next t ∧ woken s t p true ∧
         t.port.cd = true ∧ t.port.intake = none)) ∧
     (s.line.join ≠ .asleep →
       exec (.wakeInEdge p) s = .next (if p.wakeIn then { s with pins := p } else s) ∧
       exec (.layoverInEdge p) s = .next { s with pins := p } ∧
       exec (.wakeCommand p) s = .next { s with pins := p, port := { s.port with cd := true, intake := none } })) ∧
  (∀ (p : Pins) (s : State), s.line.join = .asleep → p.pdHigh = false →
     ∃ t, exec (.lineWake p) s = .next t ∧ woken s t p false)

/-! ## The image (R25 to R31) -/

/-- The band latched at a start frame event that finds the station JOINING or JOINED, field by field from its
owners (R26, R27, R59, R97, R100, R121, R123, R138, R156). -/
def Obligations.LatchedBandFollowsItsOwners : Prop :=
  ∀ (i : Instr) (p : Pins) (s : State), sampleRow i (.startFrameEvent p) p s → p.pdHigh = false →
    s.line.lowRun = 3 → s.line.phase = .frame → s.line.join = .joining ∨ s.line.join = .joined →
    let x := s.port.settings
    let draw := (Eight.ofFn (fun k => if (s.feed.get k).st = .inrush ∨ (s.feed.get k).st = .on
      then x.nominal.get k else 0)).sum
    let next := match s.nextFeeder with
      | some k => x.nominal.get k
      | none => 0
    ∃ t b, exec i s = .next t ∧ t.line.image.band = some b ∧ t.line.lastBand = some b ∧
      b.present = true ∧ b.role = s.straps.role ∧ b.unsettled = (!s.scan.settled) ∧
      b.tier = BitVec.ofNat 2
        (if s.isDrive then 2 else if s.isStore then 1 else if s.isAux then x.tier else 0) ∧
      b.claim = BitVec.ofNat 10
        (if s.hasCeiling then s.port.demand else if s.isAux then min 1023 (draw + next) else 0) ∧
      b.value = BitVec.ofNat 10
        (if s.isPole then (if s.pole.pos.st = .onWire ∧ s.pole.neg.st = .onWire then s.scan.u else 0)
          else if s.hasCeiling then s.port.roleValue else 0) ∧
      b.alarms.k0 = (s.isPole && s.pole.pos.droppedOpen) ∧
      b.alarms.k1 = (s.isPole && s.pole.neg.droppedOpen) ∧
      b.alarms.k2 = (s.budget.ownOverdraw || decide (0 < s.budget.cutHold)) ∧
      b.alarms.k3 = p.eCut ∧
      (b.alarms.k4 = true ↔ ∃ k, k ≠ s.straps.stn ∧ (s.view.entries.get k).st = .silent)

/-- The mark set latched at a start frame event that finds the station JOINING or JOINED, mark by mark from its
owners (R25, R76, R98, R99, R119 to R121, R136, R145, R171, R174, R177).
Model's choices: the levels a row carries (log 4). -/
def Obligations.LatchedMarksFollowTheirOwners : Prop :=
  ∀ (i : Instr) (p : Pins) (s : State), sampleRow i (.startFrameEvent p) p s → p.pdHigh = false →
    s.line.lowRun = 3 → s.line.phase = .frame → s.line.join = .joining ∨ s.line.join = .joined →
    let on := s.pole.pos.st = .onWire ∧ s.pole.neg.st = .onWire
    let gap := s.pole.pos.st.isGap = true ∨ s.pole.neg.st.isGap = true
    let off := fun q : PoleState => q ≠ .onWire ∧ q.isGap = false
    let busy := s.arb.window ≠ none ∨ (s.hasCeiling = true ∧ 0 < s.ceil.ceiling) ∨
      (s.isAux = true ∧ ∃ k, (s.feed.get k).st = .inrush ∨ (s.feed.get k).st = .on) ∨ p.wakeIn = true
    ∃ t, exec i s = .next t ∧
      let m := t.line.image.marks
      (m.drop = true ↔ s.isPole = true ∧ (s.pole.pos.unacked = true ∨ s.pole.neg.unacked = true)) ∧
      (m.gap = true ↔ s.isPole = true ∧ gap) ∧
      (m.offWire = true ↔ s.isPole = true ∧ (off s.pole.pos.st ∨ off s.pole.neg.st)) ∧
      (m.regenBar = true ↔
        (s.isPole = true ∧ (s.port.settings.uRegen ≤ s.scan.u ∨ ¬on)) ∨ (s.isStore = true ∧ p.ri0 = true)) ∧
      (m.ack = true ↔ s.isCab = true ∧ s.slate.ackPending = true) ∧
      (m.lower = true ↔ s.isCab = true ∧ p.ri1 = true) ∧
      (m.cut = true ↔ p.eCut = true ∨ 0 < s.budget.cutHold) ∧
      (m.hold = true ↔ s.scan.settled = false ∨
        (s.isPole = true ∧ (gap ∨ (on ∧ s.scan.u < s.port.settings.uFloor))) ∨
        (s.line.layoverRead = true ∧ busy)) ∧
      (m.inrush = true ↔ s.arb.window ≠ none) ∧
      (m.layover = true ↔ s.isCab = true ∧ p.ri2 = true ∧
        ∃ r, s.view.latest = some r ∧ r.offWire = true ∧ r.drop = false)

/-- The key latched at a start frame event that finds the station JOINING or JOINED: a candidate's tier, age
and number, 0 for any other station; rounds waited return to 0 where there is no candidate (R31, R141, R142). -/
def Obligations.LatchedKeyIsTheCandidates : Prop :=
  ∀ (i : Instr) (p : Pins) (s : State), sampleRow i (.startFrameEvent p) p s → p.pdHigh = false →
    s.line.lowRun = 3 → s.line.phase = .frame → s.line.join = .joining ∨ s.line.join = .joined →
    let candidate : Prop := s.arb.window = none ∧
      ((s.hasCeiling = true ∧ s.ceil.st = .waiting) ∨
        (s.isAux = true ∧ ∃ k, (s.feed.get k).st = .waiting ∧
          (∀ l, l < k → (s.feed.get l).st ≠ .waiting) ∧
          s.energizedSum + s.port.settings.nominal.get k ≤ s.ownGrant))
    let tier := if s.isDrive then 2 else if s.isStore then 1 else s.port.settings.tier
    ∃ t, exec i s = .next t ∧
      (candidate → t.line.image.key =
          BitVec.ofNat 8 (64 * tier + 8 * min 7 (s.arb.waited / 8) + s.straps.stn.val) ∧
        t.arb = s.arb) ∧
      (¬candidate → t.line.image.key = 0 ∧ t.arb = { s.arb with waited := 0 })

/-! ## The scanner -/

/-- CONVERSION_END of AN0, AN1 or AN2: the raw is kept in the working store, and the converter takes a captured
group-B value first, else the next channel of the pass, else it idles (R64, R65). GROUP_B_PASS_END: the current
is scaled and written, the pass counter advances, a waiting capture request is taken at that moment, and the
converter goes on (R64, R66, R67, R69). -/
def Obligations.ConversionsFollowOneAnother : Prop :=
  (∀ (p : Pins) (s : State) (c : Channel) (r : Raw), s.scan.conv = some ⟨c, r⟩ →
     c = .an0 ∨ c = .an1 ∨ c = .an2 →
     let w : Work :=
       { w0 := if c = .an0 then r else s.scan.work.w0
         w1 := if c = .an1 then r else s.scan.work.w1
         w2 := if c = .an2 then r else s.scan.work.w2
         w3 := s.scan.work.w3 }
     (∀ v, s.scan.bHeld = some v → exec (.conversionEnd p) s = .next { s with
       pins := p, scan := { s.scan with work := w, conv := some ⟨.an4, v⟩, bHeld := none } }) ∧
     (s.scan.bHeld = none →
       (∀ d, s.scan.aNext = some d → exec (.conversionEnd p) s = .next { s with
         pins := p, scan := { s.scan with work := w, conv := some ⟨d, pinRaw p d⟩, aNext := nextChannel d } }) ∧
       (s.scan.aNext = none → exec (.conversionEnd p) s = .next { s with
         pins := p, scan := { s.scan with work := w, conv := none } }))) ∧
  (∀ (p : Pins) (s : State) (r : Raw), s.scan.conv = some ⟨.an4, r⟩ → s.scan.bHeld = none →
     let raw := r.toNat * s.port.settings.currSpan / 1024
     let y : Scan := { s.scan with
       bCount := s.scan.bCount + 1
       results := { s.scan.results with
         e4 := ⟨r, ((min 1023 raw : Nat) : Int), decide (r.toNat = 1023 ∨ 1023 < raw), !s.scan.settled,
           s.scan.bCount + 1, none, none, none⟩ } }
     ∃ t, exec (.groupBPassEnd p) s = .next t ∧
       (s.scan.bWaiting = true →
         t.scan = { y with conv := some ⟨.an4, p.an4⟩, bRunning := true, bWaiting := false }) ∧
       (s.scan.bWaiting = false →
         (∀ c, s.scan.aNext = some c →
           t.scan = { y with conv := some ⟨c, pinRaw p c⟩, aNext := nextChannel c, bRunning := false }) ∧
         (s.scan.aNext = none → t.scan = { y with conv := none, bRunning := false })) ∧
       t = { s with
         pins := p, scan := t.scan, budget := t.budget, ceil := t.ceil, feed := t.feed, port := t.port })

/-- GROUP_A_PASS_END of an awake station: counter, scaled values, shoe states, angle zones and line voltage are
written together with the results, and the next pass begins; a captured group-B value is converted first (R65
to R68, R70 to R73, R76). -/
def Obligations.PassEndDecidesAndWrites : Prop :=
  ∀ (p : Pins) (s : State) (r : Raw), s.scan.conv = some ⟨.an3, r⟩ → s.line.join ≠ .asleep →
    let x := s.scan
    let e := s.port.settings
    let n := x.aCount + 1
    let volts := fun w : Raw => (((w.toNat : Int) - 512) * (e.potSpan : Int)).tdiv 512
    let ends := fun w : Raw => decide (w.toNat = 0 ∨ w.toNat = 1023)
    let shoe := fun (h : Shoe) (v : Int) =>
      let against : Prop := if h.live then v.natAbs < e.shoeDead else e.shoeLive ≤ v.natAbs
      if against then (if h.run = 2 then (⟨!h.live, 0⟩ : Shoe) else ⟨h.live, h.run + 1⟩) else ⟨h.live, 0⟩
    let angle := fun w : Raw => w.toNat * 90 / 1024
    let zone := fun (a : Angle) (d : Nat) =>
      if d ≤ e.angleStow then (⟨.stowed, false⟩ : Angle)
      else if d ≤ e.angleHigh then ⟨.work, false⟩
      else if a.high then ⟨.high, true⟩ else ⟨a.zone, true⟩
    let sp := shoe x.shoePos (volts x.work.w0)
    let sn := shoe x.shoeNeg (volts x.work.w1)
    let u := if sp.live ∧ sn.live then min 1023 (volts x.work.w0 - volts x.work.w1).toNat else 0
    ∃ t, exec (.groupAPassEnd p) s = .next t ∧
      t.scan.aCount = n ∧ t.scan.shoePos = sp ∧ t.scan.shoeNeg = sn ∧ t.scan.u = u ∧
      t.scan.angPos = zone x.angPos (angle x.work.w2) ∧ t.scan.angNeg = zone x.angNeg (angle r) ∧
      t.scan.results = { x.results with
        e0 := ⟨x.work.w0, volts x.work.w0, ends x.work.w0, !x.settled, n, some sp.live, none, some u⟩
        e1 := ⟨x.work.w1, volts x.work.w1, ends x.work.w1, !x.settled, n, some sn.live, none, some u⟩
        e2 := ⟨x.work.w2, (angle x.work.w2 : Int), ends x.work.w2, !x.settled, n, none,
          some (zone x.angPos (angle x.work.w2)).zone, none⟩
        e3 := ⟨r, (angle r : Int), ends r, !x.settled, n, none, some (zone x.angNeg (angle r)).zone, none⟩ } ∧
      (∀ v, x.bHeld = some v →
        t.scan.conv = some ⟨.an4, v⟩ ∧ t.scan.bHeld = none ∧ t.scan.aNext = some .an0) ∧
      (x.bHeld = none →
        t.scan.conv = some ⟨.an0, p.an0⟩ ∧ t.scan.bHeld = none ∧ t.scan.aNext = some .an1) ∧
      t.scan.settled = x.settled ∧ t.scan.settleMs = x.settleMs ∧ t.scan.bCount = x.bCount ∧
      t.scan.bRunning = x.bRunning ∧ t.scan.bWaiting = x.bWaiting ∧
      (s.isPole = false ∨ x.settled = false → t.pole = s.pole ∧ t.port = s.port) ∧
      t = { s with pins := p, scan := t.scan, pole := t.pole, port := t.port }

/-- SLOW_PASS_START and SLOW_PASS_END of a sleeping station: a pass begins if none runs; its end writes the
angle zones and their results only, arms the stowed flags, and a pole off its stop wakes the station (R65, R77,
R180, R181). -/
def Obligations.SlowPassesWatchTheAngles : Prop :=
  ∀ (p : Pins) (s : State), s.line.join = .asleep →
    (s.isPole = true → s.scan.passRunning = false → s.scan.conv = none → s.scan.bHeld = none →
      exec (.slowPassStart p) s = .next { s with
        pins := p, scan := { s.scan with conv := some ⟨.an0, p.an0⟩, aNext := some .an1 } }) ∧
    (s.isPole = true → s.scan.passRunning = true →
      exec (.slowPassStart p) s = .next { s with pins := p }) ∧
    (∀ r, s.scan.conv = some ⟨.an3, r⟩ →
      let e := s.port.settings
      let zone := fun (a : Angle) (d : Nat) =>
        if d ≤ e.angleStow then (⟨.stowed, false⟩ : Angle)
        else if d ≤ e.angleHigh then ⟨.work, false⟩
        else if a.high then ⟨.high, true⟩ else ⟨a.zone, true⟩
      let zp := zone s.scan.angPos (s.scan.work.w2.toNat * 90 / 1024)
      let zn := zone s.scan.angNeg (r.toNat * 90 / 1024)
      let rises : Prop := (s.wakeDet.stowedPos = true ∧ zp.zone ≠ .stowed) ∨
        (s.wakeDet.stowedNeg = true ∧ zn.zone ≠ .stowed)
      ∃ t, exec (.slowPassEnd p) s = .next t ∧ t.scan.aCount = s.scan.aCount + 1 ∧
        t.scan.angPos = zp ∧ t.scan.angNeg = zn ∧ t.scan.u = s.scan.u ∧
        t.scan.shoePos.live = s.scan.shoePos.live ∧ t.scan.shoeNeg.live = s.scan.shoeNeg.live ∧
        t.scan.results = { s.scan.results with
          e2 := ⟨s.scan.work.w2, ((s.scan.work.w2.toNat * 90 / 1024 : Nat) : Int),
            decide (s.scan.work.w2.toNat = 0 ∨ s.scan.work.w2.toNat = 1023), !s.scan.settled,
            s.scan.aCount + 1, none, some zp.zone, none⟩
          e3 := ⟨r, ((r.toNat * 90 / 1024 : Nat) : Int), decide (r.toNat = 0 ∨ r.toNat = 1023),
            !s.scan.settled, s.scan.aCount + 1, none, some zn.zone, none⟩ } ∧
        (rises → t.line.join = .listen ∧ t.line.wakeDue = true ∧ t.scan.settled = false ∧
          t.wakeDet = { s.wakeDet with armed := false } ∧ portKept s t false) ∧
        (¬rises → t.line = s.line ∧ t.port = s.port ∧ t.scan.settled = s.scan.settled ∧
          t.wakeDet = { s.wakeDet with
            stowedPos := s.wakeDet.stowedPos || zp.zone == .stowed
            stowedNeg := s.wakeDet.stowedNeg || zn.zone == .stowed }) ∧
        t.pole = s.pole ∧ t.pins = p)

/-- LOW_HALF_EXPIRY, SETTLE_EXPIRY, KEEPALIVE_EXPIRY, TRIP_PULSE_EXPIRY and ARC_CUT_MIN_EXPIRY: PACE-B released
(a sleeping station then stops), the settle state at an elapsed time of SETTLE_MS, the keepalive start reason, TRIP, and ARC_CUT once no pole
is dropped-open (R2, R4, R10, R75, R102, R103, R117).
Model's choices: expiry rows whatever the count (log 2), the driver that ends its low half asleep (log 23). -/
def Obligations.TimersExpire : Prop :=
  ∀ s : State,
    (∀ p : Pins, s.line.driver = .lowHalf →
      (s.line.join ≠ .asleep → p.pbHigh = false → exec (.lowHalfExpiry p) s = .next { s with
        pins := p, line := { s.line with driver := .waitRise, pbDrv := false } }) ∧
      (s.line.join = .asleep → exec (.lowHalfExpiry p) s = .next { s with
        pins := p, line := { s.line with driver := .stopped, pbDrv := false } })) ∧
    (s.scan.settled = false → s.line.join ≠ .asleep →
      exec .settleExpiry s = .next { s with scan := { s.scan with
        settled := true, settleMs := max s.scan.settleMs s.port.settings.settleMs } }) ∧
    (s.line.keepalive ≠ none → exec .keepaliveExpiry s =
      .next { s with line := { s.line with keepalive := none, keepaliveDue := true } }) ∧
    (s.budget.trip ≠ none →
      exec .tripPulseExpiry s = .next { s with budget := { s.budget with trip := none } }) ∧
    (s.pole.arcMin ≠ none →
      let frees : Bool := s.pole.arcCut && !s.pole.pos.droppedOpen && !s.pole.neg.droppedOpen
      exec .arcCutMinExpiry s = .next { s with
        pole := { s.pole with arcMin := none, arcCut := s.pole.arcCut && !frees }
        port := if frees then s.port.enqueue ⟨.pole, 33, s.pole.arcMs, s.line.roundCount.toNat⟩
          else s.port })

/-! ## Pole watch -/

/-- A settled pass end at the POLE: the tables of every pole state, the gap allowance, the flags of a drop,
ARC_CUT and the notices. -/
def Obligations.PoleTablesAtASettledPassEnd : Prop :=
  ∀ (p : Pins) (s : State) (r : Raw), s.scan.conv = some ⟨.an3, r⟩ → s.line.join ≠ .asleep →
    s.isPole = true → s.scan.settled = true →
    let e := s.port.settings
    let lower := s.pole.lowerHeard
    let n := s.line.roundCount.toNat
    let allowance := if s.pole.heldSpeed = 0 then 1500
      else max 20 (min 1500 (3600 * e.sectionDm / s.pole.heldSpeed + e.gapGuard))
    ∃ t, exec (.groupAPassEnd p) s = .next t ∧
      (∀ w : PoleName,
        let z := match w with
          | .pos => t.scan.angPos.zone
          | .neg => t.scan.angNeg.zone
        let live := match w with
          | .pos => t.scan.shoePos.live
          | .neg => t.scan.shoeNeg.live
        let x := s.pole.record w
        let y := t.pole.record w
        let next : PoleState := match x.st, z with
          | .lowered, .stowed => .lowered
          | .lowered, .work => .seeking
          | .seeking, .stowed => .lowered
          | .seeking, .work => if live then .rewiring e.rewireMs else .seeking
          | .rewiring _, .stowed => .lowered
          | .rewiring l, .work => if live then .rewiring l else .seeking
          | .onWire, .work =>
            if live then .onWire else if lower then .seeking else .gap allowance allowance
          | .gap g l, .work => if live then .onWire else if lower then .seeking else .gap g l
          | .onWire, .stowed => if lower then .lowered else .dropped .angle
          | .gap _ _, .stowed => if lower then .lowered else .dropped .angle
          | .dropped c, .stowed => .retrieved c
          | .dropped c, .work => if live then .rewiring e.rewireMs else .dropped c
          | .dropped c, .high => .dropped c
          | .retrieved c, .stowed => if lower then .lowered else .retrieved c
          | .retrieved _, .work => .seeking
          | _, .high => .dropped .angle
        let drops : Prop := next.code = 5 ∧ next ≠ x.st
        let value := match next with
          | .lowered => 0
          | .seeking => x.st.gapDuration
          | .rewiring l => l
          | .onWire => x.st.gapDuration
          | .gap g _ => g
          | .dropped c => 256 * x.st.code + c.code
          | .retrieved c => 256 * 5 + c.code
        y.st = next ∧ y.stamp = (if next = x.st then x.stamp else n) ∧
        (drops → y.droppedOpen = true ∧ y.unacked = true ∧ y.ackable = false ∧
          t.pole.arcCut = true ∧ t.pole.arcMin = some e.arcCutMin ∧
          (s.pole.arcCut = false → noticed t ⟨.pole, 32, 0, n⟩)) ∧
        (¬drops → y.unacked = x.unacked ∧ y.ackable = x.ackable ∧
          y.droppedOpen = (x.droppedOpen && !(next.code == 0 && lower))) ∧
        (next ≠ x.st → noticed t ⟨.pole, poleBase w + next.code, value, n⟩)) ∧
      (s.pole.arcCut = true → t.pole.arcCut = (t.pole.pos.droppedOpen || t.pole.neg.droppedOpen ||
        t.pole.arcMin.isSome)) ∧
      (s.pole.arcCut = true → t.pole.arcCut = false → noticed t ⟨.pole, 33, s.pole.arcMs, n⟩) ∧
      portKept s t s.port.lineUp ∧ t.pole.paused = false ∧ t.pole.lowerHeard = lower ∧ t.pole.heldSpeed = s.pole.heldSpeed

/-- REWIRE_EXPIRY and GAP_ALLOWANCE_EXPIRY at an awake POLE: the rewired pole is on the wire and no longer
dropped-open, and ARC_CUT may be released; the pole whose allowance has run out is dropped, cause TIMED, with
ARC_CUT asserted (R84, R87, R91, R92, R101 to R103).
Model's choices: expiry rows whatever the count (log 2). -/
def Obligations.PoleTimersExpire : Prop :=
  ∀ (w : PoleName) (s : State), s.isPole = true → s.pole.paused = false →
    let n := s.line.roundCount.toNat
    let x := s.pole.record w
    let other := s.pole.record (match w with
      | .pos => .neg
      | .neg => .pos)
    (∀ l, x.st = .rewiring l → ∃ t, exec (.rewireExpiry w) s = .next t ∧
      let frees : Bool := s.pole.arcCut && !other.droppedOpen && s.pole.arcMin.isNone
      t = { s with pole := t.pole, port := t.port } ∧ portKept s t s.port.lineUp ∧
      t.pole = { (s.pole.setRec w { x with st := .onWire, droppedOpen := false, stamp := n }) with
        arcCut := s.pole.arcCut && !frees } ∧
      noticed t ⟨.pole, poleBase w + 3, 0, n⟩ ∧ (frees = true → noticed t ⟨.pole, 33, s.pole.arcMs, n⟩)) ∧
    (∀ g l, x.st = .gap g l → ∃ t, exec (.gapAllowanceExpiry w) s = .next t ∧
      t = { s with pole := t.pole, port := t.port } ∧ portKept s t s.port.lineUp ∧
      t.pole = { (s.pole.setRec w { st := .dropped .timed, droppedOpen := true, unacked := true
                                    ackable := false, stamp := n }) with
        arcCut := true, arcMin := some s.port.settings.arcCutMin
        arcMs := if s.pole.arcCut then s.pole.arcMs else 0 } ∧
      noticed t ⟨.pole, poleBase w + 5, 1026, n⟩ ∧
      (s.pole.arcCut = false → noticed t ⟨.pole, 32, 0, n⟩))

/-! ## The overdraw checks -/

/-- The own overdraw check at a group-B pass end of a DRIVE, AUX or STORE: what counts, how the counts move,
and what a trip and a recovery do (R115 to R117, R131, R161). -/
def Obligations.OwnOverdrawCheck : Prop :=
  ∀ (p : Pins) (s : State) (r : Raw), s.scan.conv = some ⟨.an4, r⟩ → s.contends = true →
    let b := s.budget
    let g := s.ownGrant
    let margin := s.port.settings.ownMargin
    let a := min 1023 (r.toNat * s.port.settings.currSpan / 1024)
    let counts : Prop := s.scan.settled = true ∧ b.kind ≠ .none ∧ s.line.join ≠ .asleep
    let trips : Prop := counts ∧ g + margin < a ∧ b.ownOverdraw = false ∧ b.overCount = 2
    ∃ t, exec (.groupBPassEnd p) s = .next t ∧
      (¬counts → t.budget = b) ∧
      (counts → ¬trips →
        (g + margin < a → t.budget = { b with
          lastI := a, underCount := 0, overCount := if b.ownOverdraw then 0 else b.overCount + 1 }) ∧
        (g < a → a ≤ g + margin → t.budget = { b with lastI := a, underCount := 0, overCount := 0 }) ∧
        (a ≤ g → b.ownOverdraw = false →
          t.budget = { b with lastI := a, underCount := 0, overCount := 0 }) ∧
        (a ≤ g → b.ownOverdraw = true → b.underCount < 2 →
          t.budget = { b with lastI := a, underCount := b.underCount + 1, overCount := 0 }) ∧
        (a ≤ g → b.ownOverdraw = true → 2 ≤ b.underCount →
          t.budget = { b with lastI := a, underCount := 0, overCount := 0, ownOverdraw := false })) ∧
      (¬trips → t.ceil = s.ceil ∧ t.feed = s.feed ∧ t.port = s.port) ∧
      (trips →
        t.budget = { b with
          lastI := a, underCount := 0, overCount := 0, ownOverdraw := true
          trip := some s.port.settings.tripPulse } ∧
        t.tripOut = true ∧ portKept s t s.port.lineUp ∧ (s.hasCeiling = false → t.ceil = s.ceil) ∧
        (s.isAux = false → t.feed = s.feed) ∧
        (s.hasCeiling = true →
          t.ceil = { s.ceil with ceiling := 0, st := .heldZero, cutHeld := true } ∧
          (s.ceil.ceiling ≠ 0 ∨ s.ceil.st ≠ .heldZero →
            noticed t ⟨.ceiling, 0, 0, s.line.roundCount.toNat⟩)) ∧
        (s.isAux = true → (∀ k, (s.feed.get k).st.energized = false) → t.feed = s.feed) ∧
        (s.isAux = true → ∀ k, (s.feed.get k).st.energized = true →
          ((s.feed.get k).st = .inrush ∧ (∀ l, l < k → (s.feed.get l).st ≠ .inrush)) ∨
            ((∀ l, (s.feed.get l).st ≠ .inrush) ∧ ∀ l, k < l → (s.feed.get l).st.energized = false) →
          t.feed = s.feed.set k { s.feed.get k with st := .waiting, stamp := s.line.roundCount.toNat } ∧
            noticed t ⟨.feeder, k.val, 256 * 6 + 1, s.line.roundCount.toNat⟩))

/-- The vehicle overcurrent check at a group-B pass end of the POLE: a third counted reading above availability
and margin starts a cut hold. -/
def Obligations.VehicleOvercurrentCheck : Prop :=
  ∀ (p : Pins) (s : State) (r : Raw), s.scan.conv = some ⟨.an4, r⟩ → s.isPole = true →
    let b := s.budget
    let a := min 1023 (r.toNat * s.port.settings.currSpan / 1024)
    let counts : Prop := s.scan.settled = true ∧ b.kind ≠ .none ∧ s.line.join ≠ .asleep
    ∃ t, exec (.groupBPassEnd p) s = .next t ∧
      (¬counts → t.budget = b) ∧
      (counts → a ≤ b.avail + s.port.settings.lineMargin → t.budget = { b with lastI := a, overCurrent := 0 }) ∧
      (counts → b.avail + s.port.settings.lineMargin < a → b.overCurrent < 2 →
        t.budget = { b with lastI := a, overCurrent := b.overCurrent + 1 }) ∧
      (counts → b.avail + s.port.settings.lineMargin < a → 2 ≤ b.overCurrent →
        t.budget = { b with lastI := a, overCurrent := 0, cutHold := s.port.settings.cutHold }) ∧
      t.ceil = s.ceil ∧ t.feed = s.feed ∧ t.port = s.port ∧ t.pole = s.pole

/-! ## Sounder -/

/-- SOUND_DELAY_EXPIRY turns SOUNDER ON if it is OFF and starts its minimum; SOUND_MIN_EXPIRY turns it OFF when
no entry is RAISED and the slate is not full (R172, R175).
Model's choices: expiry rows whatever the count (log 2), a SOUND_MIN_MS of 0 (log 24). -/
def Obligations.SounderTimersExpire : Prop :=
  ∀ s : State, s.isCab = true →
    let n := s.line.roundCount.toNat
    (∀ (src : Fin 8) (k : AlarmKind), (∃ e ∈ s.slate.entries, e.delayRuns src k = true) →
      let l := s.slate.entries.map (fun e => if e.delayRuns src k then { e with delay := none } else e)
      (s.slate.sounder = true →
        exec (.soundDelayExpiry src k) s = .next { s with slate := { s.slate with entries := l } }) ∧
      (s.slate.sounder = false →
        exec (.soundDelayExpiry src k) s = .next { s with
          slate := { s.slate with
            entries := l, sounder := true, onMs := 0
            minLeft := if s.port.settings.soundMin = 0 then none else some s.port.settings.soundMin }
          port := s.port.enqueue ⟨.slate, 7, 0, n⟩ })) ∧
    (s.slate.minLeft ≠ none →
      let calls : Prop := s.slate.sounder = false ∨ s.slate.full = true ∨
        ∃ e ∈ s.slate.entries, e.st = .raised
      (calls → exec .soundMinExpiry s = .next { s with slate := { s.slate with minLeft := none } }) ∧
      (¬calls → exec .soundMinExpiry s = .next { s with
        slate := { s.slate with minLeft := none, sounder := false }
        port := s.port.enqueue ⟨.slate, 8, s.slate.onMs, n⟩ }))

/-! ## Role inputs -/

/-- E_CUT_EDGE: an asserting edge takes a ceiling to 0 and sheds every energized feeder of a TIER 1 AUX at once;
with their FEEDER notices; a releasing edge moves nothing (R128, R131, R137, R160, R163). FULL_IN_EDGE and LOWER_IN_EDGE give the level that the next
latch reads; ACK_IN_PRESS at a CAB makes a request if the control is ARMED and leaves it DISARMED, and at another
role is only a level (R120, R136, R170, R174).
Model's choices: an edge acts on the new level it carries (log 4). -/
def Obligations.RoleInputsActAtTheirEdges : Prop :=
  (∀ (p : Pins) (s : State),
     let n := s.line.roundCount.toNat
     (p.eCut = false → exec (.eCutEdge p) s = .next { s with pins := p }) ∧
     (p.eCut = true → ∃ t, exec (.eCutEdge p) s = .next t ∧
       t = { s with pins := p, ceil := t.ceil, feed := t.feed, port := t.port } ∧
       portKept s t s.port.lineUp ∧
       (s.hasCeiling = true →
         t.ceil = { s.ceil with ceiling := 0, st := .heldZero, cutHeld := true } ∧ t.feed = s.feed ∧
         (s.ceil.ceiling ≠ 0 ∨ s.ceil.st ≠ .heldZero → t.port = s.port.enqueue ⟨.ceiling, 0, 0, n⟩)) ∧
       (s.hasCeiling = false → t.ceil = s.ceil) ∧
       (s.isAux = true → s.port.settings.tier = 1 → ∀ k, t.feed.get k =
         if (s.feed.get k).st.energized then { s.feed.get k with st := .waiting, stamp := n }
         else s.feed.get k) ∧
       (s.isAux = true → s.port.settings.tier = 1 → ∀ k, (s.feed.get k).st.energized = true →
         noticed t ⟨.feeder, k.val, 256 * 5 + 1, n⟩) ∧
       (s.isAux = true → s.port.settings.tier ≠ 1 → t.feed = s.feed ∧ t.port = s.port) ∧
       (s.hasCeiling = false → s.isAux = false → t.feed = s.feed ∧ t.port = s.port))) ∧
  (∀ (p : Pins) (s : State),
     exec (.fullInEdge p) s = .next { s with pins := p } ∧
     exec (.lowerInEdge p) s = .next { s with pins := p } ∧
     (p.ri0 = true → s.isCab = false → exec (.ackInPress p) s = .next { s with pins := p }) ∧
     (p.ri0 = true → s.isCab = true → exec (.ackInPress p) s = .next { s with
       pins := p
       slate := { s.slate with
         ackPending := s.slate.ackPending || decide (s.slate.rearm = .armed), rearm := .disarmed } }))

/-! ## The local port -/

/-- CFG_WRITE: refused while locked or for a code that names no setting; otherwise the value is clamped to the
setting's range, the pair rules raise the upper of a pair, every other setting is kept, and the setting acts at
the write where its chapter says so, a nominal by shedding what the grant no longer holds, with its FEEDER notices
(R75, R114, R159, R163, R186, R193). CFG_LOCK sets the lock at a station strapped
with role 1 to 5 and is refused at any other (R186, R193).
Model's choices: a settle time written while asleep (log 29), the row as the whole command (log 30). -/
def Obligations.SettingsAreWrittenUntilTheLock : Prop :=
  (∀ (item : Byte) (value : BitVec 16) (s : State),
     let t0 := s.port.settings
     let v := value.toNat
     let q : Port := { s.port with cd := false, intake := none }
     ((s.port.locked = true ∨ settingRange item.toNat = none) →
       exec (.cfgWrite item value) s = .next { s with port := { q with refused := true } }) ∧
     (s.port.locked = false → ∀ lo hi, settingRange item.toNat = some (lo, hi) →
       ∃ t, exec (.cfgWrite item value) s = .next t ∧
         let t1 := t.port.settings
         let kept := fun c : Nat => t1.get c = t0.get c
         (item.toNat = 1 → t1.tier = if v ≤ 1 then 1 else 3) ∧
         (item.toNat = 4 → t1.uKnee = max (max lo (min hi v)) (t0.uFloor + 1)) ∧
         (item.toNat = 19 → t1.shoeLive = max (max lo (min hi v)) (t0.shoeDead + 1)) ∧
         (item.toNat = 21 → t1.angleHigh = max (max lo (min hi v)) (t0.angleStow + 1)) ∧
         (item.toNat ∉ [1, 4, 19, 21] → t1.get item.toNat = some (max lo (min hi v))) ∧
         (item.toNat = 3 → t1.uKnee = max t0.uKnee (t1.uFloor + 1)) ∧
         (item.toNat = 18 → t1.shoeLive = max t0.shoeLive (t1.shoeDead + 1)) ∧
         (item.toNat = 20 → t1.angleHigh = max t0.angleHigh (t1.angleStow + 1)) ∧
         (∀ c, c ≠ item.toNat → (item.toNat, c) ∉ [(3, 4), (18, 19), (20, 21)] → kept c) ∧
         t.scan = { s.scan with
           settled := s.scan.settled || (decide (item.toNat = 34) && decide (s.line.join ≠ .asleep) &&
             decide (t1.settleMs ≤ s.scan.settleMs)) } ∧
         ((item.toNat < 48 ∨ 56 ≤ item.toNat ∨ s.isAux = false) → t.feed = s.feed ∧ t.port = { q with settings := t1 }) ∧
         t.port = { q with settings := t1, queue := t.port.queue, lost := t.port.lost } ∧
         (48 ≤ item.toNat → item.toNat < 56 → s.isAux = true →
           let n := s.line.roundCount.toNat
           t.feed = shedTable t1.nominal s.feed s.ownGrant n ∧ t.energizedSum ≤ t.ownGrant ∧
           ∀ k, isShed t1.nominal s.feed s.ownGrant k = true → noticed t ⟨.feeder, k.val, 256 * 4 + 1, n⟩) ∧
         t = { s with scan := t.scan, feed := t.feed, port := t.port })) ∧
  (∀ s : State,
     let q : Port := { s.port with cd := true, intake := none }
     ((1 ≤ s.straps.role.toNat ∧ s.straps.role.toNat ≤ 5) →
       exec .cfgLock s = .next { s with port := { q with locked := true } }) ∧
     (¬(1 ≤ s.straps.role.toNat ∧ s.straps.role.toNat ≤ 5) →
       exec .cfgLock s = .next { s with port := { q with refused := true } }))

/-- DEMAND and ROLE_VALUE at a DRIVE or STORE hold the value clamped to 1023; a DEMAND moves a WAITING or
HELD_ZERO record and nothing else of it; other roles refuse both (R132, R137, R138, R186).
Model's choices: the row as the whole command (log 30). -/
def Obligations.DemandAndRoleValue : Prop :=
  ∀ (value : BitVec 16) (s : State),
    let q : Port := { s.port with cd := false, intake := none }
    let d := min 1023 value.toNat
    let n := s.line.roundCount.toNat
    let stops : Prop := s.ceil.st = .waiting ∧ d = 0
    let waits : Prop := s.ceil.st = .heldZero ∧ s.ceil.cutHeld = false ∧ 0 < d ∧ 0 < s.ownGrant
    (s.hasCeiling = false →
      exec (.demand value) s = .next { s with port := { q with refused := true } } ∧
      exec (.roleValue value) s = .next { s with port := { q with refused := true } }) ∧
    (s.hasCeiling = true →
      exec (.roleValue value) s = .next { s with port := { q with roleValue := d } } ∧
      (stops → exec (.demand value) s = .next { s with
        ceil := { s.ceil with st := .heldZero }
        port := ({ q with demand := d } : Port).enqueue ⟨.ceiling, 0, s.ceil.ceiling, n⟩ }) ∧
      (waits → exec (.demand value) s = .next { s with
        ceil := { s.ceil with st := .waiting }
        port := ({ q with demand := d } : Port).enqueue ⟨.ceiling, 1, s.ceil.ceiling, n⟩ }) ∧
      (¬stops → ¬waits → exec (.demand value) s = .next { s with port := { q with demand := d } }))

/-- FEEDER_MASK at an AUX: each record whose enable changes becomes WAITING or OFF with its FEEDER notice, and
the disable of the window feeder ends the window; other roles refuse it (R148, R151, R155, R163, R186).
Model's choices: the order of its notices (log 20), the row as the whole command (log 30). -/
def Obligations.FeederMaskMovesRecords : Prop :=
  ∀ (mask : Byte) (s : State),
    let q : Port := { s.port with cd := false, intake := none }
    let n := s.line.roundCount.toNat
    (s.isAux = false →
      exec (.feederMask mask) s = .next { s with port := { q with refused := true } }) ∧
    (s.isAux = true → ∃ t, exec (.feederMask mask) s = .next t ∧
      t = { s with feed := t.feed, arb := t.arb, port := t.port } ∧
      t.port = { q with queue := t.port.queue, lost := t.port.lost } ∧
      (∀ k, t.feed.get k =
        if (s.feed.get k).enable = mask.getLsbD k.val then s.feed.get k
        else ⟨mask.getLsbD k.val, if mask.getLsbD k.val then .waiting else .off, n⟩) ∧
      (∀ k, (s.feed.get k).enable ≠ mask.getLsbD k.val →
        noticed t ⟨.feeder, k.val, if mask.getLsbD k.val then 1 else 0, n⟩) ∧
      (∀ w k, s.arb.window = some w → w.feeder = some k → mask.getLsbD k.val = false →
        t.arb = { s.arb with window := none, holder := .free } ∧
          noticed t ⟨.window, 4, 256 * (w.len - w.left) + 9, n⟩) ∧
      ((∀ w k, s.arb.window = some w → w.feeder = some k → mask.getLsbD k.val = true) → t.arb = s.arb))

/-- SNAPSHOT: items 0 to 8 select the buffer and copy the record, byte by byte in the order of its table; a
record, index or entry that is not there gives an empty copy; other items are refused (R43, R67, R78, R107, R126,
R154, R165, R190, R193).
Model's choices: the layout where the manual leaves it open (log 21), the row as the whole command (log 30). -/
def Obligations.SnapshotCopiesTheRecord : Prop :=
  ∀ (item index : Byte) (s : State),
    let q : Port := { s.port with cd := false, intake := none }
    let n := index.toNat
    let b1 : Nat → List Byte := fun v => [BitVec.ofNat 8 v]
    let b2 : Nat → List Byte := fun v => [BitVec.ofNat 8 (v / 256), BitVec.ofNat 8 v]
    let flag : Bool → List Byte := fun b => b1 (if b then 1 else 0)
    let poleCopy : PoleRec → List Byte := fun x =>
      (match x.st with
        | .lowered => b1 0 ++ b1 0 ++ b2 0 ++ b2 0 ++ b2 0
        | .seeking => b1 1 ++ b1 0 ++ b2 0 ++ b2 0 ++ b2 0
        | .rewiring l => b1 2 ++ b1 0 ++ b2 0 ++ b2 0 ++ b2 l
        | .onWire => b1 3 ++ b1 0 ++ b2 0 ++ b2 0 ++ b2 0
        | .gap g l => b1 4 ++ b1 0 ++ b2 g ++ b2 l ++ b2 0
        | .dropped .angle => b1 5 ++ b1 1 ++ b2 0 ++ b2 0 ++ b2 0
        | .dropped .timed => b1 5 ++ b1 2 ++ b2 0 ++ b2 0 ++ b2 0
        | .retrieved .angle => b1 6 ++ b1 1 ++ b2 0 ++ b2 0 ++ b2 0
        | .retrieved .timed => b1 6 ++ b1 2 ++ b2 0 ++ b2 0 ++ b2 0) ++
      flag x.droppedOpen ++ flag x.unacked ++ flag x.ackable ++ b2 x.stamp
    (9 ≤ item.toNat → exec (.snapshot item index) s = .next { s with port := { q with refused := true } }) ∧
    (item.toNat ≤ 8 → ∃ l, exec (.snapshot item index) s =
        .next { s with port := { q with source := .snapshot, snap := l, snapPtr := 0 } } ∧
      (item = 0 → ∀ k : Fin 8, n = k.val →
        let e := s.view.entries.get k
        l = b1 (match e.st with
            | .absent => 0
            | .heardOnce => 1
            | .present => 2
            | .silent => 3) ++ b1 e.role ++ b1 e.tier ++ flag e.unsettled ++
          b1 ((if e.alarms.k0 then 1 else 0) + (if e.alarms.k1 then 2 else 0) + (if e.alarms.k2 then 4 else 0) +
            (if e.alarms.k3 then 8 else 0) + (if e.alarms.k4 then 16 else 0)) ++
          b2 e.lastClaim ++ b2 (e.prevClaim.getD 0) ++ b2 e.lastValue ++ b2 (e.prevValue.getD 0) ++
          b2 e.claim ++ b2 e.value ++ b1 e.miss) ∧
      (item = 0 → 8 ≤ n → l = []) ∧
      (item = 1 → s.isPole = true → n = 0 → l = poleCopy s.pole.pos) ∧
      (item = 1 → s.isPole = true → n = 1 → l = poleCopy s.pole.neg) ∧
      (item = 1 → s.isPole = false ∨ 2 ≤ n → l = []) ∧
      (item = 2 → n = 0 →
        let b := s.budget
        l = b1 (match b.kind with
            | .none => 0
            | .view => 1
            | .limp => 2) ++ b2 b.stamp ++ flag b.lineOffUsed ++ b2 b.uUsed ++ b2 b.lav ++ b2 b.offerUsed ++
          b2 b.avail ++ b2 (b.grants.get 0) ++ b2 (b.grants.get 1) ++ b2 (b.grants.get 2) ++
          b2 (b.grants.get 3) ++ b2 (b.grants.get 4) ++ b2 (b.grants.get 5) ++ b2 (b.grants.get 6) ++
          b2 (b.grants.get 7) ++ b2 b.remainder ++ b2 (b.grants.get s.straps.stn) ++ flag b.limp ++
          flag b.ownOverdraw ++ b1 b.overCount ++ b1 b.underCount ++
          (match b.trip with
            | some ms => b1 1 ++ b1 ms
            | none => b1 0 ++ b1 0) ++ b1 b.overCurrent ++ b1 b.cutHold ++ b2 b.lastI) ∧
      (item = 2 → n ≠ 0 → l = []) ∧
      (item = 3 → s.isAux = true → ∀ k : Fin 8, n = k.val → l =
        b1 (s.port.settings.nominal.get k) ++ b1 (s.port.settings.inrush.get k) ++
          flag (s.feed.get k).enable ++ b1 (s.feed.get k).st.code ++ b2 (s.feed.get k).stamp ++
          b2 s.energizedSum ++ b1 (match s.nextFeeder with
            | some j => j.val
            | none => 8)) ∧
      (item = 3 → s.isAux = false ∨ 8 ≤ n → l = []) ∧
      (item = 4 → s.isCab = true → ∀ e, s.slate.entries[n]? = some e → l =
        b1 e.source.val ++ b1 (kindCode e.kind) ++ b1 e.st.code ++ b2 e.stamp ++ b1 e.rep ++
          b2 (e.delay.getD 0)) ∧
      (item = 4 → s.isCab = false ∨ s.slate.entries.length ≤ n → l = []) ∧
      (item = 5 → ∀ k : Fin 8, n = k.val →
        let c := s.scan.results.get k
        l = b2 c.raw.toNat ++ b2 (BitVec.ofInt 16 c.value).toNat ++ flag c.atLimit ++
          flag c.unsettled ++ b2 c.pass.toNat ++ flag (c.shoe.getD false) ++
          b1 (match c.zone with
            | some z => z.code
            | none => 0) ++ b2 (c.u.getD 0)) ∧
      (item = 5 → 8 ≤ n → l = []) ∧
      (item = 6 → n = 0 → l = b2 s.summaryWord.toNat) ∧
      (item = 6 → n ≠ 0 → l = []) ∧
      (item = 7 → s.hasCeiling = true → n = 0 → l =
        b2 s.ceil.ceiling ++ b1 s.ceil.st.code ++ flag s.ceil.cutHeld ++ flag s.ceil.limpCut) ∧
      (item = 7 → s.hasCeiling = false ∨ n ≠ 0 → l = []) ∧
      (item = 8 → ∀ v, s.port.settings.get n = some v → l = b2 v) ∧
      (item = 8 → s.port.settings.get n = none → l = []))

/-- SNAPSHOT_READ returns the byte at the pointer and advances it; past the end it returns 0 (R190). SUMMARY and
SUMMARY_READ: the first read copies the word, whose fields are the pole states, ceiling at 0, join state,
line-off and own window, and returns its high byte; the second returns the low byte of that copy (R191).
Model's choices: the read pointers (log 22), a copy held for its low byte dropped by another SUMMARY (log 40). -/
def Obligations.SnapshotAndSummaryAreReadInOrder : Prop :=
  (∀ s : State, s.port.source = .snapshot →
     (s.port.snapPtr < s.port.snap.length → exec .snapshotRead s = .next { s with
       port := { s.port with
         dataOut := s.port.snap.getD s.port.snapPtr 0, snapPtr := s.port.snapPtr + 1 } }) ∧
     (s.port.snapPtr = s.port.snap.length → exec .snapshotRead s = .next { s with
       port := { s.port with dataOut := 0 } })) ∧
  (∀ s : State,
     exec .summary s = .next { s with
       port := { s.port with cd := true, intake := none, source := .summary, summaryLow := none } } ∧
     (s.port.source = .summary →
       (s.port.summaryLow = none → ∃ w : BitVec 16,
         exec .summaryRead s = .next { s with
           port := { s.port with dataOut := w.extractLsb' 8 8, summaryLow := some w } } ∧
         w.extractLsb' 12 4 = 0 ∧
         (w.extractLsb' 9 3).toNat = (if s.isPole then s.pole.pos.st.code else 7) ∧
         (w.extractLsb' 6 3).toNat = (if s.isPole then s.pole.neg.st.code else 7) ∧
         w.getLsbD 5 = (!s.hasCeiling || decide (s.ceil.ceiling = 0)) ∧
         (w.extractLsb' 2 3).toNat = s.line.join.code ∧ w.getLsbD 1 = s.view.lineOff ∧
         w.getLsbD 0 = decide (s.arb.holder = .self)) ∧
       (∀ w, s.port.summaryLow = some w → exec .summaryRead s = .next { s with
         port := { s.port with dataOut := w.extractLsb' 0 8, summaryLow := none } })))

/-- NOTICES and NOTICE_READ: the six bytes of the head notice in order; byte 0 latches it, byte 5 removes it,
and an empty queue reads 0; NOTICES and the selection of another read source leave the head and its latch; a
GRANT notice behind a latched GRANT head is queued as a new one. -/
def Obligations.NoticesAreReadByteByByte : Prop :=
  ∀ s : State,
    exec .notices s = .next { s with
      port := { s.port with cd := true, intake := none, source := .notices, byteIdx := 0 } } ∧
    (s.port.source = .notices →
      (s.port.queue = [] → s.port.byteIdx = 0 →
        exec .noticeRead s = .next { s with port := { s.port with dataOut := 0 } }) ∧
      (∀ m rest, s.port.queue = m :: rest →
        let b : Nat → Byte := fun k => match k with
          | 0 => BitVec.ofNat 8 m.kind.code
          | 1 => BitVec.ofNat 8 m.subject
          | 2 => BitVec.ofNat 8 (m.value / 256)
          | 3 => BitVec.ofNat 8 m.value
          | 4 => BitVec.ofNat 8 (m.stamp / 256)
          | _ => BitVec.ofNat 8 m.stamp
        (s.port.byteIdx < 5 → exec .noticeRead s = .next { s with
          port := { s.port with
            dataOut := b s.port.byteIdx, byteIdx := s.port.byteIdx + 1
            headLatched := s.port.headLatched || decide (s.port.byteIdx = 0) } }) ∧
        (s.port.byteIdx = 5 → exec .noticeRead s = .next { s with
          port := { s.port with dataOut := b 5, byteIdx := 0, queue := rest, headLatched := false } }))) ∧
    (∀ item index : Byte, ∃ t, exec (.snapshot item index) s = .next t ∧
      t.port.queue = s.port.queue ∧ t.port.headLatched = s.port.headLatched) ∧
    (∃ t, exec .summary s = .next t ∧
      t.port.queue = s.port.queue ∧ t.port.headLatched = s.port.headLatched) ∧
    (∀ m rest n, s.port.queue = m :: rest → m.kind = .grant → s.port.headLatched = true → n.kind = .grant →
      (∀ x ∈ rest, x.kind ≠ .grant) → s.port.queue.length < 32 →
      (s.port.enqueue n).queue = s.port.queue ++ [n])

/-- A generated notice: a GRANT or CEILING notice updates one of its kind that waits unlatched, in its place;
any other is appended while fewer than 32 wait, and is lost with NOTICE_LOST when 32 do (R187). -/
def Obligations.GeneratedNoticesCoalesceAppendOrAreLost : Prop :=
  ∀ (q : Port) (n : Notice),
    let head := if q.headLatched then q.queue.take 1 else []
    let free := if q.headLatched then q.queue.drop 1 else q.queue
    let coalesces : Prop := (n.kind = .grant ∨ n.kind = .ceiling) ∧ ∃ m ∈ free, m.kind = n.kind
    (coalesces → ∃ a m b, free = a ++ m :: b ∧ m.kind = n.kind ∧ (∀ x ∈ a, x.kind ≠ n.kind) ∧
      q.enqueue n = { q with queue := head ++ (a ++ n :: b) }) ∧
    (¬coalesces → q.queue.length < 32 → q.enqueue n = { q with queue := q.queue ++ [n] }) ∧
    (¬coalesces → 32 ≤ q.queue.length → q.enqueue n = { q with lost := true })

/-- The command intake: a command byte with parameters begins collecting, discarding a held command; an unknown
one and a parameter byte without a command are refused; a parameter byte that is not the last is held, and the
last one executes the command (R183, R185, R186). The Code column of R186 says which row the write of each command
byte is, and LA0 whether a write is a command byte (R183).
Model's choices: the last parameter runs the whole command (log 30). -/
def Obligations.IntakeCollectsParameters : Prop :=
  ∀ s : State,
    (∀ c, exec (.commandIntake c) s =
      .next { s with port := { s.port with cd := true, intake := some ⟨c, []⟩ } }) ∧
    (∀ code : Byte, code ∉ [0x10, 0x11, 0x20, 0x21, 0x22, 0x30, 0x31, 0x32, 0x40, 0x41] →
      exec (.unknownCommand code) s =
        .next { s with port := { s.port with cd := true, intake := none, refused := true } }) ∧
    (∀ b : Byte, s.port.intake = none → exec (.parameterByteWrite b) s =
      .next { s with port := { s.port with cd := false, refused := true } }) ∧
    (∀ (b : Byte) (c : ParamCommand) (l : List Byte), s.port.intake = some ⟨c, l⟩ →
      (l.length + 1 < paramCount c → exec (.parameterByteWrite b) s =
        .next { s with port := { s.port with cd := false, intake := some ⟨c, l ++ [b]⟩ } }) ∧
      (∀ x y : Byte, c = .cfgWrite → l = [x, y] →
        exec (.parameterByteWrite b) s = exec (.cfgWrite x (y ++ b)) s) ∧
      (∀ x : Byte, c = .demand → l = [x] →
        exec (.parameterByteWrite b) s = exec (.demand (x ++ b)) s) ∧
      (∀ x : Byte, c = .roleValue → l = [x] →
        exec (.parameterByteWrite b) s = exec (.roleValue (x ++ b)) s) ∧
      (c = .feederMask → l = [] → exec (.parameterByteWrite b) s = exec (.feederMask b) s) ∧
      (∀ x : Byte, c = .snapshot → l = [x] →
        exec (.parameterByteWrite b) s = exec (.snapshot x b) s)) ∧
    (∀ (code : Byte) (p : Pins),
      portWriteRow false code p = .parameterByteWrite code ∧
      (let row := portWriteRow true code p
       (code = 0x10 → row = .commandIntake .cfgWrite) ∧ (code = 0x11 → row = .cfgLock) ∧
       (code = 0x20 → row = .commandIntake .demand) ∧ (code = 0x21 → row = .commandIntake .roleValue) ∧
       (code = 0x22 → row = .commandIntake .feederMask) ∧ (code = 0x30 → row = .commandIntake .snapshot) ∧
       (code = 0x31 → row = .notices) ∧ (code = 0x32 → row = .summary) ∧
       (code = 0x40 → row = .stationReset p) ∧ (code = 0x41 → row = .wakeCommand p) ∧
       (code ∉ [0x10, 0x11, 0x20, 0x21, 0x22, 0x30, 0x31, 0x32, 0x40, 0x41] → row = .unknownCommand code)))

/-- STATUS_READ returns the eight flags of the status byte and clears CMD_REFUSED and NOTICE_LOST (R184). -/
def Obligations.StatusReadShowsAndClears : Prop :=
  ∀ s : State, ∃ b : Byte,
    exec .statusRead s = .next { s with port := { s.port with dataOut := b, refused := false, lost := false } } ∧
    (b.getLsbD 7 = true ↔ s.port.queue ≠ []) ∧ b.getLsbD 6 = s.port.intake.isSome ∧
    b.getLsbD 5 = s.port.refused ∧ b.getLsbD 4 = s.port.lost ∧
    b.getLsbD 3 = (s.isCab && s.slate.full) ∧ b.getLsbD 2 = s.port.locked ∧
    b.getLsbD 1 = s.port.lineUp ∧ b.getLsbD 0 = s.port.cd

/-- The output pins as functions of the state: LIRQ, TRIP and the role outputs; what a role does not use is
released (R101, R117, R134, R136, R163, R172, R173, R189, R194). -/
def Obligations.OutputsFollowTheState : Prop :=
  ∀ s : State,
    (s.lirq = true ↔ s.port.settings.watermark ≤ s.port.queue.length ∨
      ∃ m ∈ s.port.queue, m.kind = .pole) ∧
    (s.tripOut = true ↔ (s.isDrive = true ∨ s.isAux = true ∨ s.isStore = true) ∧ s.budget.trip ≠ none) ∧
    (s.isPole = true → s.roleOutputs = ⟨s.pole.arcCut, false, false, false, false, false, false, false⟩) ∧
    (s.isDrive = true →
      s.roleOutputs = ⟨s.ceil.cutHeld, s.ceil.regenOk, false, false, false, false, false, false⟩) ∧
    (s.isAux = true → ∀ k, (s.roleOutputs.get k = true ↔
      (s.feed.get k).st = .inrush ∨ (s.feed.get k).st = .on)) ∧
    (s.isStore = true → s.roleOutputs =
      ⟨decide (0 < s.ceil.ceiling), false, false, false, false, false, false, false⟩) ∧
    (s.isCab = true → s.roleOutputs =
      ⟨s.slate.sounder, decide (s.line.join ≠ .asleep ∧ s.slate.entries ≠ []),
        false, false, false, false, false, false⟩) ∧
    (s.roleAssigned = false → s.roleOutputs = Eight.all false)

/-! ## Invariants -/

/-- Every step keeps the buffers within their bounds (at most 32 notices with at most one GRANT and one CEILING
unlatched, at most 12 slate entries and no two alike), every setting in its range with the pairs in order, the
sum of grants and remainder equal to the availability, and a station that is awake and SETTLING at an elapsed time
below SETTLE_MS (R71, R72, R75, R107, R112, R114, R165, R187, R188, R193). -/
def Obligations.EveryStepKeepsBuffersSettingsAndGrants : Prop :=
  ∀ s t : State, step s = .next t →
    (queueOk s.port → queueOk t.port) ∧ (slateOk s.slate → slateOk t.slate) ∧
      (settingsOk s.port.settings → settingsOk t.port.settings) ∧
      (grantsOk s.budget → grantsOk t.budget) ∧
      (settingsOk s.port.settings → settleOk s → settleOk t)

/-- Every step keeps the counters of the line engine in their ranges, its frames and recovery beats in place,
and its drive pins with the beat driver (R1, R2, R4 to R6, R14, R17, R35, R38, R178). -/
def Obligations.EveryStepKeepsTheLineEngine : Prop :=
  ∀ s t : State, step s = .next t → lineOk s.line → lineOk t.line

/-- Every step keeps the pole records in their ranges, a DROPPED or RETRIEVED pole dropped-open, and ARC_CUT
asserted while either pole is dropped-open (R78, R91, R94, R101, R102). -/
def Obligations.EveryStepKeepsThePoles : Prop :=
  ∀ s t : State, step s = .next t → settingsOk s.port.settings → polesOk s.pole → polesOk t.pole

/-- Every step keeps the draw within the own grant: the ceiling of a DRIVE or STORE, the energized sum of an
AUX; feeders and ceiling states agree with the restart window, and limp with the join state (R107, R122, R126
to R129, R154, R158, R159). -/
def Obligations.EveryStepKeepsTheDraw : Prop :=
  ∀ s t : State, step s = .next t → settingsOk s.port.settings → drawOk s → drawOk t

/-- Every step keeps the restart window's promise: a station holds it only if the last round it completed
carried none of HOLD, CUT, OFF_WIRE and GAP, and a round in flight then carries its INRUSH (R145, R147). -/
def Obligations.EveryStepKeepsTheWindow : Prop :=
  ∀ s t : State, step s = .next t → lineOk s.line → joinOk s → windowOk s → joinOk t ∧ windowOk t

/-- A ceiling rises from 0 only while the station holds the restart window or is in LINE_DOWN or CLASHED
(R129, R133). -/
def Obligations.CeilingLeavesZeroOnlyInAWindowOrLimp : Prop :=
  ∀ s t : State, step s = .next t → settingsOk s.port.settings → drawOk s →
    s.ceil.ceiling = 0 → 0 < t.ceil.ceiling →
    s.arb.window ≠ none ∨ t.arb.window ≠ none ∨ s.line.join = .clashed ∨ s.line.join = .lineDown

/-- The invariants hold right after reset. -/
def Obligations.TheInvariantsHoldAtReset : Prop :=
  let s := State.reset
  queueOk s.port ∧ slateOk s.slate ∧ settingsOk s.port.settings ∧ grantsOk s.budget ∧ settleOk s ∧
    lineOk s.line ∧ polesOk s.pole ∧ drawOk s ∧ joinOk s ∧ windowOk s
end

