-- ==== Sys2Proof/Laws/State.lean ====
section
/-!
SUPPORT. The state's record laws: what each setter leaves in each block, true by unfolding. The
proof is `(rfl)`, in brackets, so that simp can discharge the premise of another lemma through it.
-/

namespace Sys2Proof.Machine.State

section set_straps
variable (s : State) (x : Straps)
@[simp] theorem setStraps_straps : (s.setStraps x).straps = x := (rfl)
@[simp] theorem setStraps_pins : (s.setStraps x).pins = s.pins := (rfl)
@[simp] theorem setStraps_line : (s.setStraps x).line = s.line := (rfl)
@[simp] theorem setStraps_view : (s.setStraps x).view = s.view := (rfl)
@[simp] theorem setStraps_scan : (s.setStraps x).scan = s.scan := (rfl)
@[simp] theorem setStraps_pole : (s.setStraps x).pole = s.pole := (rfl)
@[simp] theorem setStraps_budget : (s.setStraps x).budget = s.budget := (rfl)
@[simp] theorem setStraps_ceil : (s.setStraps x).ceil = s.ceil := (rfl)
@[simp] theorem setStraps_arb : (s.setStraps x).arb = s.arb := (rfl)
@[simp] theorem setStraps_feed : (s.setStraps x).feed = s.feed := (rfl)
@[simp] theorem setStraps_slate : (s.setStraps x).slate = s.slate := (rfl)
@[simp] theorem setStraps_wakeDet : (s.setStraps x).wakeDet = s.wakeDet := (rfl)
@[simp] theorem setStraps_port : (s.setStraps x).port = s.port := (rfl)
@[simp] theorem setStraps_pending : (s.setStraps x).pending = s.pending := (rfl)
end set_straps

section set_pins
variable (s : State) (x : Pins)
@[simp] theorem setPins_straps : (s.setPins x).straps = s.straps := (rfl)
@[simp] theorem setPins_pins : (s.setPins x).pins = x := (rfl)
@[simp] theorem setPins_line : (s.setPins x).line = s.line := (rfl)
@[simp] theorem setPins_view : (s.setPins x).view = s.view := (rfl)
@[simp] theorem setPins_scan : (s.setPins x).scan = s.scan := (rfl)
@[simp] theorem setPins_pole : (s.setPins x).pole = s.pole := (rfl)
@[simp] theorem setPins_budget : (s.setPins x).budget = s.budget := (rfl)
@[simp] theorem setPins_ceil : (s.setPins x).ceil = s.ceil := (rfl)
@[simp] theorem setPins_arb : (s.setPins x).arb = s.arb := (rfl)
@[simp] theorem setPins_feed : (s.setPins x).feed = s.feed := (rfl)
@[simp] theorem setPins_slate : (s.setPins x).slate = s.slate := (rfl)
@[simp] theorem setPins_wakeDet : (s.setPins x).wakeDet = s.wakeDet := (rfl)
@[simp] theorem setPins_port : (s.setPins x).port = s.port := (rfl)
@[simp] theorem setPins_pending : (s.setPins x).pending = s.pending := (rfl)
end set_pins

section set_line
variable (s : State) (x : Line)
@[simp] theorem setLine_straps : (s.setLine x).straps = s.straps := (rfl)
@[simp] theorem setLine_pins : (s.setLine x).pins = s.pins := (rfl)
@[simp] theorem setLine_line : (s.setLine x).line = x := (rfl)
@[simp] theorem setLine_view : (s.setLine x).view = s.view := (rfl)
@[simp] theorem setLine_scan : (s.setLine x).scan = s.scan := (rfl)
@[simp] theorem setLine_pole : (s.setLine x).pole = s.pole := (rfl)
@[simp] theorem setLine_budget : (s.setLine x).budget = s.budget := (rfl)
@[simp] theorem setLine_ceil : (s.setLine x).ceil = s.ceil := (rfl)
@[simp] theorem setLine_arb : (s.setLine x).arb = s.arb := (rfl)
@[simp] theorem setLine_feed : (s.setLine x).feed = s.feed := (rfl)
@[simp] theorem setLine_slate : (s.setLine x).slate = s.slate := (rfl)
@[simp] theorem setLine_wakeDet : (s.setLine x).wakeDet = s.wakeDet := (rfl)
@[simp] theorem setLine_port : (s.setLine x).port = s.port := (rfl)
@[simp] theorem setLine_pending : (s.setLine x).pending = s.pending := (rfl)
end set_line

section set_view
variable (s : State) (x : View)
@[simp] theorem setView_straps : (s.setView x).straps = s.straps := (rfl)
@[simp] theorem setView_pins : (s.setView x).pins = s.pins := (rfl)
@[simp] theorem setView_line : (s.setView x).line = s.line := (rfl)
@[simp] theorem setView_view : (s.setView x).view = x := (rfl)
@[simp] theorem setView_scan : (s.setView x).scan = s.scan := (rfl)
@[simp] theorem setView_pole : (s.setView x).pole = s.pole := (rfl)
@[simp] theorem setView_budget : (s.setView x).budget = s.budget := (rfl)
@[simp] theorem setView_ceil : (s.setView x).ceil = s.ceil := (rfl)
@[simp] theorem setView_arb : (s.setView x).arb = s.arb := (rfl)
@[simp] theorem setView_feed : (s.setView x).feed = s.feed := (rfl)
@[simp] theorem setView_slate : (s.setView x).slate = s.slate := (rfl)
@[simp] theorem setView_wakeDet : (s.setView x).wakeDet = s.wakeDet := (rfl)
@[simp] theorem setView_port : (s.setView x).port = s.port := (rfl)
@[simp] theorem setView_pending : (s.setView x).pending = s.pending := (rfl)
end set_view

section set_scan
variable (s : State) (x : Scan)
@[simp] theorem setScan_straps : (s.setScan x).straps = s.straps := (rfl)
@[simp] theorem setScan_pins : (s.setScan x).pins = s.pins := (rfl)
@[simp] theorem setScan_line : (s.setScan x).line = s.line := (rfl)
@[simp] theorem setScan_view : (s.setScan x).view = s.view := (rfl)
@[simp] theorem setScan_scan : (s.setScan x).scan = x := (rfl)
@[simp] theorem setScan_pole : (s.setScan x).pole = s.pole := (rfl)
@[simp] theorem setScan_budget : (s.setScan x).budget = s.budget := (rfl)
@[simp] theorem setScan_ceil : (s.setScan x).ceil = s.ceil := (rfl)
@[simp] theorem setScan_arb : (s.setScan x).arb = s.arb := (rfl)
@[simp] theorem setScan_feed : (s.setScan x).feed = s.feed := (rfl)
@[simp] theorem setScan_slate : (s.setScan x).slate = s.slate := (rfl)
@[simp] theorem setScan_wakeDet : (s.setScan x).wakeDet = s.wakeDet := (rfl)
@[simp] theorem setScan_port : (s.setScan x).port = s.port := (rfl)
@[simp] theorem setScan_pending : (s.setScan x).pending = s.pending := (rfl)
end set_scan

section set_pole
variable (s : State) (x : PoleWatch)
@[simp] theorem setPole_straps : (s.setPole x).straps = s.straps := (rfl)
@[simp] theorem setPole_pins : (s.setPole x).pins = s.pins := (rfl)
@[simp] theorem setPole_line : (s.setPole x).line = s.line := (rfl)
@[simp] theorem setPole_view : (s.setPole x).view = s.view := (rfl)
@[simp] theorem setPole_scan : (s.setPole x).scan = s.scan := (rfl)
@[simp] theorem setPole_pole : (s.setPole x).pole = x := (rfl)
@[simp] theorem setPole_budget : (s.setPole x).budget = s.budget := (rfl)
@[simp] theorem setPole_ceil : (s.setPole x).ceil = s.ceil := (rfl)
@[simp] theorem setPole_arb : (s.setPole x).arb = s.arb := (rfl)
@[simp] theorem setPole_feed : (s.setPole x).feed = s.feed := (rfl)
@[simp] theorem setPole_slate : (s.setPole x).slate = s.slate := (rfl)
@[simp] theorem setPole_wakeDet : (s.setPole x).wakeDet = s.wakeDet := (rfl)
@[simp] theorem setPole_port : (s.setPole x).port = s.port := (rfl)
@[simp] theorem setPole_pending : (s.setPole x).pending = s.pending := (rfl)
end set_pole

section set_budget
variable (s : State) (x : Budget)
@[simp] theorem setBudget_straps : (s.setBudget x).straps = s.straps := (rfl)
@[simp] theorem setBudget_pins : (s.setBudget x).pins = s.pins := (rfl)
@[simp] theorem setBudget_line : (s.setBudget x).line = s.line := (rfl)
@[simp] theorem setBudget_view : (s.setBudget x).view = s.view := (rfl)
@[simp] theorem setBudget_scan : (s.setBudget x).scan = s.scan := (rfl)
@[simp] theorem setBudget_pole : (s.setBudget x).pole = s.pole := (rfl)
@[simp] theorem setBudget_budget : (s.setBudget x).budget = x := (rfl)
@[simp] theorem setBudget_ceil : (s.setBudget x).ceil = s.ceil := (rfl)
@[simp] theorem setBudget_arb : (s.setBudget x).arb = s.arb := (rfl)
@[simp] theorem setBudget_feed : (s.setBudget x).feed = s.feed := (rfl)
@[simp] theorem setBudget_slate : (s.setBudget x).slate = s.slate := (rfl)
@[simp] theorem setBudget_wakeDet : (s.setBudget x).wakeDet = s.wakeDet := (rfl)
@[simp] theorem setBudget_port : (s.setBudget x).port = s.port := (rfl)
@[simp] theorem setBudget_pending : (s.setBudget x).pending = s.pending := (rfl)
end set_budget

section set_ceil
variable (s : State) (x : Ceil)
@[simp] theorem setCeil_straps : (s.setCeil x).straps = s.straps := (rfl)
@[simp] theorem setCeil_pins : (s.setCeil x).pins = s.pins := (rfl)
@[simp] theorem setCeil_line : (s.setCeil x).line = s.line := (rfl)
@[simp] theorem setCeil_view : (s.setCeil x).view = s.view := (rfl)
@[simp] theorem setCeil_scan : (s.setCeil x).scan = s.scan := (rfl)
@[simp] theorem setCeil_pole : (s.setCeil x).pole = s.pole := (rfl)
@[simp] theorem setCeil_budget : (s.setCeil x).budget = s.budget := (rfl)
@[simp] theorem setCeil_ceil : (s.setCeil x).ceil = x := (rfl)
@[simp] theorem setCeil_arb : (s.setCeil x).arb = s.arb := (rfl)
@[simp] theorem setCeil_feed : (s.setCeil x).feed = s.feed := (rfl)
@[simp] theorem setCeil_slate : (s.setCeil x).slate = s.slate := (rfl)
@[simp] theorem setCeil_wakeDet : (s.setCeil x).wakeDet = s.wakeDet := (rfl)
@[simp] theorem setCeil_port : (s.setCeil x).port = s.port := (rfl)
@[simp] theorem setCeil_pending : (s.setCeil x).pending = s.pending := (rfl)
end set_ceil

section set_arb
variable (s : State) (x : Arbiter)
@[simp] theorem setArb_straps : (s.setArb x).straps = s.straps := (rfl)
@[simp] theorem setArb_pins : (s.setArb x).pins = s.pins := (rfl)
@[simp] theorem setArb_line : (s.setArb x).line = s.line := (rfl)
@[simp] theorem setArb_view : (s.setArb x).view = s.view := (rfl)
@[simp] theorem setArb_scan : (s.setArb x).scan = s.scan := (rfl)
@[simp] theorem setArb_pole : (s.setArb x).pole = s.pole := (rfl)
@[simp] theorem setArb_budget : (s.setArb x).budget = s.budget := (rfl)
@[simp] theorem setArb_ceil : (s.setArb x).ceil = s.ceil := (rfl)
@[simp] theorem setArb_arb : (s.setArb x).arb = x := (rfl)
@[simp] theorem setArb_feed : (s.setArb x).feed = s.feed := (rfl)
@[simp] theorem setArb_slate : (s.setArb x).slate = s.slate := (rfl)
@[simp] theorem setArb_wakeDet : (s.setArb x).wakeDet = s.wakeDet := (rfl)
@[simp] theorem setArb_port : (s.setArb x).port = s.port := (rfl)
@[simp] theorem setArb_pending : (s.setArb x).pending = s.pending := (rfl)
end set_arb

section set_feed
variable (s : State) (x : Eight Feeder)
@[simp] theorem setFeed_straps : (s.setFeed x).straps = s.straps := (rfl)
@[simp] theorem setFeed_pins : (s.setFeed x).pins = s.pins := (rfl)
@[simp] theorem setFeed_line : (s.setFeed x).line = s.line := (rfl)
@[simp] theorem setFeed_view : (s.setFeed x).view = s.view := (rfl)
@[simp] theorem setFeed_scan : (s.setFeed x).scan = s.scan := (rfl)
@[simp] theorem setFeed_pole : (s.setFeed x).pole = s.pole := (rfl)
@[simp] theorem setFeed_budget : (s.setFeed x).budget = s.budget := (rfl)
@[simp] theorem setFeed_ceil : (s.setFeed x).ceil = s.ceil := (rfl)
@[simp] theorem setFeed_arb : (s.setFeed x).arb = s.arb := (rfl)
@[simp] theorem setFeed_feed : (s.setFeed x).feed = x := (rfl)
@[simp] theorem setFeed_slate : (s.setFeed x).slate = s.slate := (rfl)
@[simp] theorem setFeed_wakeDet : (s.setFeed x).wakeDet = s.wakeDet := (rfl)
@[simp] theorem setFeed_port : (s.setFeed x).port = s.port := (rfl)
@[simp] theorem setFeed_pending : (s.setFeed x).pending = s.pending := (rfl)
end set_feed

section set_slate
variable (s : State) (x : Slate)
@[simp] theorem setSlate_straps : (s.setSlate x).straps = s.straps := (rfl)
@[simp] theorem setSlate_pins : (s.setSlate x).pins = s.pins := (rfl)
@[simp] theorem setSlate_line : (s.setSlate x).line = s.line := (rfl)
@[simp] theorem setSlate_view : (s.setSlate x).view = s.view := (rfl)
@[simp] theorem setSlate_scan : (s.setSlate x).scan = s.scan := (rfl)
@[simp] theorem setSlate_pole : (s.setSlate x).pole = s.pole := (rfl)
@[simp] theorem setSlate_budget : (s.setSlate x).budget = s.budget := (rfl)
@[simp] theorem setSlate_ceil : (s.setSlate x).ceil = s.ceil := (rfl)
@[simp] theorem setSlate_arb : (s.setSlate x).arb = s.arb := (rfl)
@[simp] theorem setSlate_feed : (s.setSlate x).feed = s.feed := (rfl)
@[simp] theorem setSlate_slate : (s.setSlate x).slate = x := (rfl)
@[simp] theorem setSlate_wakeDet : (s.setSlate x).wakeDet = s.wakeDet := (rfl)
@[simp] theorem setSlate_port : (s.setSlate x).port = s.port := (rfl)
@[simp] theorem setSlate_pending : (s.setSlate x).pending = s.pending := (rfl)
end set_slate

section set_wakeDet
variable (s : State) (x : WakeDet)
@[simp] theorem setWakeDet_straps : (s.setWakeDet x).straps = s.straps := (rfl)
@[simp] theorem setWakeDet_pins : (s.setWakeDet x).pins = s.pins := (rfl)
@[simp] theorem setWakeDet_line : (s.setWakeDet x).line = s.line := (rfl)
@[simp] theorem setWakeDet_view : (s.setWakeDet x).view = s.view := (rfl)
@[simp] theorem setWakeDet_scan : (s.setWakeDet x).scan = s.scan := (rfl)
@[simp] theorem setWakeDet_pole : (s.setWakeDet x).pole = s.pole := (rfl)
@[simp] theorem setWakeDet_budget : (s.setWakeDet x).budget = s.budget := (rfl)
@[simp] theorem setWakeDet_ceil : (s.setWakeDet x).ceil = s.ceil := (rfl)
@[simp] theorem setWakeDet_arb : (s.setWakeDet x).arb = s.arb := (rfl)
@[simp] theorem setWakeDet_feed : (s.setWakeDet x).feed = s.feed := (rfl)
@[simp] theorem setWakeDet_slate : (s.setWakeDet x).slate = s.slate := (rfl)
@[simp] theorem setWakeDet_wakeDet : (s.setWakeDet x).wakeDet = x := (rfl)
@[simp] theorem setWakeDet_port : (s.setWakeDet x).port = s.port := (rfl)
@[simp] theorem setWakeDet_pending : (s.setWakeDet x).pending = s.pending := (rfl)
end set_wakeDet

section set_port
variable (s : State) (x : Port)
@[simp] theorem setPort_straps : (s.setPort x).straps = s.straps := (rfl)
@[simp] theorem setPort_pins : (s.setPort x).pins = s.pins := (rfl)
@[simp] theorem setPort_line : (s.setPort x).line = s.line := (rfl)
@[simp] theorem setPort_view : (s.setPort x).view = s.view := (rfl)
@[simp] theorem setPort_scan : (s.setPort x).scan = s.scan := (rfl)
@[simp] theorem setPort_pole : (s.setPort x).pole = s.pole := (rfl)
@[simp] theorem setPort_budget : (s.setPort x).budget = s.budget := (rfl)
@[simp] theorem setPort_ceil : (s.setPort x).ceil = s.ceil := (rfl)
@[simp] theorem setPort_arb : (s.setPort x).arb = s.arb := (rfl)
@[simp] theorem setPort_feed : (s.setPort x).feed = s.feed := (rfl)
@[simp] theorem setPort_slate : (s.setPort x).slate = s.slate := (rfl)
@[simp] theorem setPort_wakeDet : (s.setPort x).wakeDet = s.wakeDet := (rfl)
@[simp] theorem setPort_port : (s.setPort x).port = x := (rfl)
@[simp] theorem setPort_pending : (s.setPort x).pending = s.pending := (rfl)
end set_port

section set_pending
variable (s : State) (x : List Instr)
@[simp] theorem setPending_straps : (s.setPending x).straps = s.straps := (rfl)
@[simp] theorem setPending_pins : (s.setPending x).pins = s.pins := (rfl)
@[simp] theorem setPending_line : (s.setPending x).line = s.line := (rfl)
@[simp] theorem setPending_view : (s.setPending x).view = s.view := (rfl)
@[simp] theorem setPending_scan : (s.setPending x).scan = s.scan := (rfl)
@[simp] theorem setPending_pole : (s.setPending x).pole = s.pole := (rfl)
@[simp] theorem setPending_budget : (s.setPending x).budget = s.budget := (rfl)
@[simp] theorem setPending_ceil : (s.setPending x).ceil = s.ceil := (rfl)
@[simp] theorem setPending_arb : (s.setPending x).arb = s.arb := (rfl)
@[simp] theorem setPending_feed : (s.setPending x).feed = s.feed := (rfl)
@[simp] theorem setPending_slate : (s.setPending x).slate = s.slate := (rfl)
@[simp] theorem setPending_wakeDet : (s.setPending x).wakeDet = s.wakeDet := (rfl)
@[simp] theorem setPending_port : (s.setPending x).port = s.port := (rfl)
@[simp] theorem setPending_pending : (s.setPending x).pending = x := (rfl)
end set_pending

end Sys2Proof.Machine.State
end

