-- ==== Sys2Proof/Laws/FrameBlocks.lean ====
section
/-!
SUPPORT. What the operations of the inner blocks leave unchanged: one lemma for each operation,
naming every block, and every field of the port, that it does not touch.
-/

namespace Sys2Proof.Laws

open Sys2Proof.Machine

@[simp] theorem notify_frame (s : State) (k : NoticeKind) (a v st : Nat) :
    (s.notify k a v st).straps = s.straps ∧ (s.notify k a v st).pins = s.pins ∧
    (s.notify k a v st).line = s.line ∧ (s.notify k a v st).view = s.view ∧
    (s.notify k a v st).scan = s.scan ∧ (s.notify k a v st).pole = s.pole ∧
    (s.notify k a v st).budget = s.budget ∧ (s.notify k a v st).ceil = s.ceil ∧
    (s.notify k a v st).arb = s.arb ∧ (s.notify k a v st).feed = s.feed ∧
    (s.notify k a v st).slate = s.slate ∧ (s.notify k a v st).wakeDet = s.wakeDet ∧
    (s.notify k a v st).pending = s.pending ∧ (s.notify k a v st).port.cd = s.port.cd ∧
    (s.notify k a v st).port.refused = s.port.refused ∧ (s.notify k a v st).port.lineUp = s.port.lineUp ∧
    (s.notify k a v st).port.locked = s.port.locked ∧ (s.notify k a v st).port.intake = s.port.intake ∧
    (s.notify k a v st).port.headLatched = s.port.headLatched ∧
    (s.notify k a v st).port.byteIdx = s.port.byteIdx ∧ (s.notify k a v st).port.source = s.port.source ∧
    (s.notify k a v st).port.snap = s.port.snap ∧ (s.notify k a v st).port.snapPtr = s.port.snapPtr ∧
    (s.notify k a v st).port.summaryLow = s.port.summaryLow ∧
    (s.notify k a v st).port.dataOut = s.port.dataOut ∧ (s.notify k a v st).port.demand = s.port.demand ∧
    (s.notify k a v st).port.roleValue = s.port.roleValue ∧
    (s.notify k a v st).port.settings = s.port.settings := by
  simp [State.notify, Port.enqueue]
  split
  · simp
  · split <;> simp

@[simp] theorem notifyAll_frame (s : State) (k : NoticeKind) (st : Nat) (l : List (Nat × Nat)) :
    (s.notifyAll k st l).straps = s.straps ∧ (s.notifyAll k st l).pins = s.pins ∧
    (s.notifyAll k st l).line = s.line ∧ (s.notifyAll k st l).view = s.view ∧
    (s.notifyAll k st l).scan = s.scan ∧ (s.notifyAll k st l).pole = s.pole ∧
    (s.notifyAll k st l).budget = s.budget ∧ (s.notifyAll k st l).ceil = s.ceil ∧
    (s.notifyAll k st l).arb = s.arb ∧ (s.notifyAll k st l).feed = s.feed ∧
    (s.notifyAll k st l).slate = s.slate ∧ (s.notifyAll k st l).wakeDet = s.wakeDet ∧
    (s.notifyAll k st l).pending = s.pending ∧ (s.notifyAll k st l).port.cd = s.port.cd ∧
    (s.notifyAll k st l).port.refused = s.port.refused ∧ (s.notifyAll k st l).port.lineUp = s.port.lineUp ∧
    (s.notifyAll k st l).port.locked = s.port.locked ∧ (s.notifyAll k st l).port.intake = s.port.intake ∧
    (s.notifyAll k st l).port.headLatched = s.port.headLatched ∧
    (s.notifyAll k st l).port.byteIdx = s.port.byteIdx ∧ (s.notifyAll k st l).port.source = s.port.source ∧
    (s.notifyAll k st l).port.snap = s.port.snap ∧ (s.notifyAll k st l).port.snapPtr = s.port.snapPtr ∧
    (s.notifyAll k st l).port.summaryLow = s.port.summaryLow ∧
    (s.notifyAll k st l).port.dataOut = s.port.dataOut ∧ (s.notifyAll k st l).port.demand = s.port.demand ∧
    (s.notifyAll k st l).port.roleValue = s.port.roleValue ∧
    (s.notifyAll k st l).port.settings = s.port.settings := by
  induction l generalizing s with
  | nil => simp [State.notifyAll]
  | cons x r ih => simp [State.notifyAll, ih]

@[simp] theorem sense_frame (s : State) (p : Pins) :
    (s.sense p).straps = s.straps ∧ (s.sense p).line = s.line ∧ (s.sense p).view = s.view ∧
    (s.sense p).scan = s.scan ∧ (s.sense p).pole = s.pole ∧ (s.sense p).budget = s.budget ∧
    (s.sense p).ceil = s.ceil ∧ (s.sense p).arb = s.arb ∧ (s.sense p).feed = s.feed ∧
    (s.sense p).slate = s.slate ∧ (s.sense p).wakeDet = s.wakeDet ∧ (s.sense p).pending = s.pending ∧
    (s.sense p).port.cd = s.port.cd ∧ (s.sense p).port.refused = s.port.refused ∧
    (s.sense p).port.lineUp = s.port.lineUp ∧ (s.sense p).port.locked = s.port.locked ∧
    (s.sense p).port.intake = s.port.intake ∧ (s.sense p).port.headLatched = s.port.headLatched ∧
    (s.sense p).port.byteIdx = s.port.byteIdx ∧ (s.sense p).port.source = s.port.source ∧
    (s.sense p).port.snap = s.port.snap ∧ (s.sense p).port.snapPtr = s.port.snapPtr ∧
    (s.sense p).port.summaryLow = s.port.summaryLow ∧ (s.sense p).port.dataOut = s.port.dataOut ∧
    (s.sense p).port.demand = s.port.demand ∧ (s.sense p).port.roleValue = s.port.roleValue ∧
    (s.sense p).port.settings = s.port.settings := by
  simp only [State.sense]
  simp

@[simp] theorem setLineUp_frame (s : State) (b : Bool) :
    (s.setLineUp b).straps = s.straps ∧ (s.setLineUp b).pins = s.pins ∧ (s.setLineUp b).line = s.line ∧
    (s.setLineUp b).view = s.view ∧ (s.setLineUp b).scan = s.scan ∧ (s.setLineUp b).pole = s.pole ∧
    (s.setLineUp b).budget = s.budget ∧ (s.setLineUp b).ceil = s.ceil ∧ (s.setLineUp b).arb = s.arb ∧
    (s.setLineUp b).feed = s.feed ∧ (s.setLineUp b).slate = s.slate ∧ (s.setLineUp b).wakeDet = s.wakeDet ∧
    (s.setLineUp b).pending = s.pending ∧ (s.setLineUp b).port.cd = s.port.cd ∧
    (s.setLineUp b).port.refused = s.port.refused ∧ (s.setLineUp b).port.locked = s.port.locked ∧
    (s.setLineUp b).port.intake = s.port.intake ∧ (s.setLineUp b).port.headLatched = s.port.headLatched ∧
    (s.setLineUp b).port.byteIdx = s.port.byteIdx ∧ (s.setLineUp b).port.source = s.port.source ∧
    (s.setLineUp b).port.snap = s.port.snap ∧ (s.setLineUp b).port.snapPtr = s.port.snapPtr ∧
    (s.setLineUp b).port.summaryLow = s.port.summaryLow ∧ (s.setLineUp b).port.dataOut = s.port.dataOut ∧
    (s.setLineUp b).port.demand = s.port.demand ∧ (s.setLineUp b).port.roleValue = s.port.roleValue ∧
    (s.setLineUp b).port.settings = s.port.settings := by
  simp only [State.setLineUp]
  simp

@[simp] theorem refuse_frame (s : State) :
    (s.refuse).straps = s.straps ∧ (s.refuse).pins = s.pins ∧ (s.refuse).line = s.line ∧
    (s.refuse).view = s.view ∧ (s.refuse).scan = s.scan ∧ (s.refuse).pole = s.pole ∧
    (s.refuse).budget = s.budget ∧ (s.refuse).ceil = s.ceil ∧ (s.refuse).arb = s.arb ∧
    (s.refuse).feed = s.feed ∧ (s.refuse).slate = s.slate ∧ (s.refuse).wakeDet = s.wakeDet ∧
    (s.refuse).pending = s.pending ∧ (s.refuse).port.cd = s.port.cd ∧
    (s.refuse).port.lineUp = s.port.lineUp ∧ (s.refuse).port.locked = s.port.locked ∧
    (s.refuse).port.intake = s.port.intake ∧ (s.refuse).port.headLatched = s.port.headLatched ∧
    (s.refuse).port.byteIdx = s.port.byteIdx ∧ (s.refuse).port.source = s.port.source ∧
    (s.refuse).port.snap = s.port.snap ∧ (s.refuse).port.snapPtr = s.port.snapPtr ∧
    (s.refuse).port.summaryLow = s.port.summaryLow ∧ (s.refuse).port.dataOut = s.port.dataOut ∧
    (s.refuse).port.demand = s.port.demand ∧ (s.refuse).port.roleValue = s.port.roleValue ∧
    (s.refuse).port.settings = s.port.settings := by
  simp only [State.refuse]
  simp

@[simp] theorem moveFeeder_frame (s : State) (i : Fin 8) (d : FeederState) (c st : Nat) :
    (s.moveFeeder i d c st).straps = s.straps ∧ (s.moveFeeder i d c st).pins = s.pins ∧
    (s.moveFeeder i d c st).line = s.line ∧ (s.moveFeeder i d c st).view = s.view ∧
    (s.moveFeeder i d c st).scan = s.scan ∧ (s.moveFeeder i d c st).pole = s.pole ∧
    (s.moveFeeder i d c st).budget = s.budget ∧ (s.moveFeeder i d c st).ceil = s.ceil ∧
    (s.moveFeeder i d c st).arb = s.arb ∧ (s.moveFeeder i d c st).slate = s.slate ∧
    (s.moveFeeder i d c st).wakeDet = s.wakeDet ∧ (s.moveFeeder i d c st).pending = s.pending ∧
    (s.moveFeeder i d c st).port.cd = s.port.cd ∧ (s.moveFeeder i d c st).port.refused = s.port.refused ∧
    (s.moveFeeder i d c st).port.lineUp = s.port.lineUp ∧
    (s.moveFeeder i d c st).port.locked = s.port.locked ∧
    (s.moveFeeder i d c st).port.intake = s.port.intake ∧
    (s.moveFeeder i d c st).port.headLatched = s.port.headLatched ∧
    (s.moveFeeder i d c st).port.byteIdx = s.port.byteIdx ∧
    (s.moveFeeder i d c st).port.source = s.port.source ∧ (s.moveFeeder i d c st).port.snap = s.port.snap ∧
    (s.moveFeeder i d c st).port.snapPtr = s.port.snapPtr ∧
    (s.moveFeeder i d c st).port.summaryLow = s.port.summaryLow ∧
    (s.moveFeeder i d c st).port.dataOut = s.port.dataOut ∧
    (s.moveFeeder i d c st).port.demand = s.port.demand ∧
    (s.moveFeeder i d c st).port.roleValue = s.port.roleValue ∧
    (s.moveFeeder i d c st).port.settings = s.port.settings := by
  simp only [State.moveFeeder]
  simp

@[simp] theorem shedLoop_frame (s : State) (fuel g st : Nat) :
    (State.shedLoop fuel g st s).straps = s.straps ∧ (State.shedLoop fuel g st s).pins = s.pins ∧
    (State.shedLoop fuel g st s).line = s.line ∧ (State.shedLoop fuel g st s).view = s.view ∧
    (State.shedLoop fuel g st s).scan = s.scan ∧ (State.shedLoop fuel g st s).pole = s.pole ∧
    (State.shedLoop fuel g st s).budget = s.budget ∧ (State.shedLoop fuel g st s).ceil = s.ceil ∧
    (State.shedLoop fuel g st s).arb = s.arb ∧ (State.shedLoop fuel g st s).slate = s.slate ∧
    (State.shedLoop fuel g st s).wakeDet = s.wakeDet ∧ (State.shedLoop fuel g st s).pending = s.pending ∧
    (State.shedLoop fuel g st s).port.cd = s.port.cd ∧
    (State.shedLoop fuel g st s).port.refused = s.port.refused ∧
    (State.shedLoop fuel g st s).port.lineUp = s.port.lineUp ∧
    (State.shedLoop fuel g st s).port.locked = s.port.locked ∧
    (State.shedLoop fuel g st s).port.intake = s.port.intake ∧
    (State.shedLoop fuel g st s).port.headLatched = s.port.headLatched ∧
    (State.shedLoop fuel g st s).port.byteIdx = s.port.byteIdx ∧
    (State.shedLoop fuel g st s).port.source = s.port.source ∧
    (State.shedLoop fuel g st s).port.snap = s.port.snap ∧
    (State.shedLoop fuel g st s).port.snapPtr = s.port.snapPtr ∧
    (State.shedLoop fuel g st s).port.summaryLow = s.port.summaryLow ∧
    (State.shedLoop fuel g st s).port.dataOut = s.port.dataOut ∧
    (State.shedLoop fuel g st s).port.demand = s.port.demand ∧
    (State.shedLoop fuel g st s).port.roleValue = s.port.roleValue ∧
    (State.shedLoop fuel g st s).port.settings = s.port.settings := by
  induction fuel generalizing s with
  | zero => simp [State.shedLoop]
  | succ k ih =>
    simp only [State.shedLoop]
    repeat' split
    all_goals simp [ih]

@[simp] theorem shedToGrant_frame (s : State) (st : Nat) :
    (s.shedToGrant st).straps = s.straps ∧ (s.shedToGrant st).pins = s.pins ∧
    (s.shedToGrant st).line = s.line ∧ (s.shedToGrant st).view = s.view ∧ (s.shedToGrant st).scan = s.scan ∧
    (s.shedToGrant st).pole = s.pole ∧ (s.shedToGrant st).budget = s.budget ∧
    (s.shedToGrant st).ceil = s.ceil ∧ (s.shedToGrant st).arb = s.arb ∧ (s.shedToGrant st).slate = s.slate ∧
    (s.shedToGrant st).wakeDet = s.wakeDet ∧ (s.shedToGrant st).pending = s.pending ∧
    (s.shedToGrant st).port.cd = s.port.cd ∧ (s.shedToGrant st).port.refused = s.port.refused ∧
    (s.shedToGrant st).port.lineUp = s.port.lineUp ∧ (s.shedToGrant st).port.locked = s.port.locked ∧
    (s.shedToGrant st).port.intake = s.port.intake ∧
    (s.shedToGrant st).port.headLatched = s.port.headLatched ∧
    (s.shedToGrant st).port.byteIdx = s.port.byteIdx ∧ (s.shedToGrant st).port.source = s.port.source ∧
    (s.shedToGrant st).port.snap = s.port.snap ∧ (s.shedToGrant st).port.snapPtr = s.port.snapPtr ∧
    (s.shedToGrant st).port.summaryLow = s.port.summaryLow ∧
    (s.shedToGrant st).port.dataOut = s.port.dataOut ∧ (s.shedToGrant st).port.demand = s.port.demand ∧
    (s.shedToGrant st).port.roleValue = s.port.roleValue ∧
    (s.shedToGrant st).port.settings = s.port.settings := by
  simp only [State.shedToGrant]
  repeat' split
  all_goals simp

@[simp] theorem deenergize_frame (s : State) (l : List (Fin 8)) (c st : Nat) :
    (State.deenergize l c st s).straps = s.straps ∧ (State.deenergize l c st s).pins = s.pins ∧
    (State.deenergize l c st s).line = s.line ∧ (State.deenergize l c st s).view = s.view ∧
    (State.deenergize l c st s).scan = s.scan ∧ (State.deenergize l c st s).pole = s.pole ∧
    (State.deenergize l c st s).budget = s.budget ∧ (State.deenergize l c st s).ceil = s.ceil ∧
    (State.deenergize l c st s).arb = s.arb ∧ (State.deenergize l c st s).slate = s.slate ∧
    (State.deenergize l c st s).wakeDet = s.wakeDet ∧ (State.deenergize l c st s).pending = s.pending ∧
    (State.deenergize l c st s).port.cd = s.port.cd ∧
    (State.deenergize l c st s).port.refused = s.port.refused ∧
    (State.deenergize l c st s).port.lineUp = s.port.lineUp ∧
    (State.deenergize l c st s).port.locked = s.port.locked ∧
    (State.deenergize l c st s).port.intake = s.port.intake ∧
    (State.deenergize l c st s).port.headLatched = s.port.headLatched ∧
    (State.deenergize l c st s).port.byteIdx = s.port.byteIdx ∧
    (State.deenergize l c st s).port.source = s.port.source ∧
    (State.deenergize l c st s).port.snap = s.port.snap ∧
    (State.deenergize l c st s).port.snapPtr = s.port.snapPtr ∧
    (State.deenergize l c st s).port.summaryLow = s.port.summaryLow ∧
    (State.deenergize l c st s).port.dataOut = s.port.dataOut ∧
    (State.deenergize l c st s).port.demand = s.port.demand ∧
    (State.deenergize l c st s).port.roleValue = s.port.roleValue ∧
    (State.deenergize l c st s).port.settings = s.port.settings := by
  induction l generalizing s with
  | nil => simp [State.deenergize]
  | cons i r ih =>
    simp only [State.deenergize, ih]
    repeat' split
    all_goals simp

@[simp] theorem comfortCut_frame (s : State) (st : Nat) :
    (s.comfortCut st).straps = s.straps ∧ (s.comfortCut st).pins = s.pins ∧
    (s.comfortCut st).line = s.line ∧ (s.comfortCut st).view = s.view ∧ (s.comfortCut st).scan = s.scan ∧
    (s.comfortCut st).pole = s.pole ∧ (s.comfortCut st).budget = s.budget ∧
    (s.comfortCut st).ceil = s.ceil ∧ (s.comfortCut st).arb = s.arb ∧ (s.comfortCut st).slate = s.slate ∧
    (s.comfortCut st).wakeDet = s.wakeDet ∧ (s.comfortCut st).pending = s.pending ∧
    (s.comfortCut st).port.cd = s.port.cd ∧ (s.comfortCut st).port.refused = s.port.refused ∧
    (s.comfortCut st).port.lineUp = s.port.lineUp ∧ (s.comfortCut st).port.locked = s.port.locked ∧
    (s.comfortCut st).port.intake = s.port.intake ∧
    (s.comfortCut st).port.headLatched = s.port.headLatched ∧
    (s.comfortCut st).port.byteIdx = s.port.byteIdx ∧ (s.comfortCut st).port.source = s.port.source ∧
    (s.comfortCut st).port.snap = s.port.snap ∧ (s.comfortCut st).port.snapPtr = s.port.snapPtr ∧
    (s.comfortCut st).port.summaryLow = s.port.summaryLow ∧
    (s.comfortCut st).port.dataOut = s.port.dataOut ∧ (s.comfortCut st).port.demand = s.port.demand ∧
    (s.comfortCut st).port.roleValue = s.port.roleValue ∧
    (s.comfortCut st).port.settings = s.port.settings := by
  simp only [State.comfortCut]
  repeat' split
  all_goals simp

@[simp] theorem overdrawShed_frame (s : State) (st : Nat) :
    (s.overdrawShed st).straps = s.straps ∧ (s.overdrawShed st).pins = s.pins ∧
    (s.overdrawShed st).line = s.line ∧ (s.overdrawShed st).view = s.view ∧
    (s.overdrawShed st).scan = s.scan ∧ (s.overdrawShed st).pole = s.pole ∧
    (s.overdrawShed st).budget = s.budget ∧ (s.overdrawShed st).ceil = s.ceil ∧
    (s.overdrawShed st).arb = s.arb ∧ (s.overdrawShed st).slate = s.slate ∧
    (s.overdrawShed st).wakeDet = s.wakeDet ∧ (s.overdrawShed st).pending = s.pending ∧
    (s.overdrawShed st).port.cd = s.port.cd ∧ (s.overdrawShed st).port.refused = s.port.refused ∧
    (s.overdrawShed st).port.lineUp = s.port.lineUp ∧ (s.overdrawShed st).port.locked = s.port.locked ∧
    (s.overdrawShed st).port.intake = s.port.intake ∧
    (s.overdrawShed st).port.headLatched = s.port.headLatched ∧
    (s.overdrawShed st).port.byteIdx = s.port.byteIdx ∧ (s.overdrawShed st).port.source = s.port.source ∧
    (s.overdrawShed st).port.snap = s.port.snap ∧ (s.overdrawShed st).port.snapPtr = s.port.snapPtr ∧
    (s.overdrawShed st).port.summaryLow = s.port.summaryLow ∧
    (s.overdrawShed st).port.dataOut = s.port.dataOut ∧ (s.overdrawShed st).port.demand = s.port.demand ∧
    (s.overdrawShed st).port.roleValue = s.port.roleValue ∧
    (s.overdrawShed st).port.settings = s.port.settings := by
  simp only [State.overdrawShed]
  repeat' split
  all_goals simp

@[simp] theorem feederBack_frame (s : State) (i : Option (Fin 8)) (st : Nat) :
    (s.feederBack i st).straps = s.straps ∧ (s.feederBack i st).pins = s.pins ∧
    (s.feederBack i st).line = s.line ∧ (s.feederBack i st).view = s.view ∧
    (s.feederBack i st).scan = s.scan ∧ (s.feederBack i st).pole = s.pole ∧
    (s.feederBack i st).budget = s.budget ∧ (s.feederBack i st).ceil = s.ceil ∧
    (s.feederBack i st).arb = s.arb ∧ (s.feederBack i st).slate = s.slate ∧
    (s.feederBack i st).wakeDet = s.wakeDet ∧ (s.feederBack i st).pending = s.pending ∧
    (s.feederBack i st).port.cd = s.port.cd ∧ (s.feederBack i st).port.refused = s.port.refused ∧
    (s.feederBack i st).port.lineUp = s.port.lineUp ∧ (s.feederBack i st).port.locked = s.port.locked ∧
    (s.feederBack i st).port.intake = s.port.intake ∧
    (s.feederBack i st).port.headLatched = s.port.headLatched ∧
    (s.feederBack i st).port.byteIdx = s.port.byteIdx ∧ (s.feederBack i st).port.source = s.port.source ∧
    (s.feederBack i st).port.snap = s.port.snap ∧ (s.feederBack i st).port.snapPtr = s.port.snapPtr ∧
    (s.feederBack i st).port.summaryLow = s.port.summaryLow ∧
    (s.feederBack i st).port.dataOut = s.port.dataOut ∧ (s.feederBack i st).port.demand = s.port.demand ∧
    (s.feederBack i st).port.roleValue = s.port.roleValue ∧
    (s.feederBack i st).port.settings = s.port.settings := by
  simp only [State.feederBack]
  repeat' split
  all_goals simp

@[simp] theorem feederWindow_frame (s : State) (e : WindowEvent) (st : Nat) :
    (s.feederWindow e st).straps = s.straps ∧ (s.feederWindow e st).pins = s.pins ∧
    (s.feederWindow e st).line = s.line ∧ (s.feederWindow e st).view = s.view ∧
    (s.feederWindow e st).scan = s.scan ∧ (s.feederWindow e st).pole = s.pole ∧
    (s.feederWindow e st).budget = s.budget ∧ (s.feederWindow e st).ceil = s.ceil ∧
    (s.feederWindow e st).arb = s.arb ∧ (s.feederWindow e st).slate = s.slate ∧
    (s.feederWindow e st).wakeDet = s.wakeDet ∧ (s.feederWindow e st).pending = s.pending ∧
    (s.feederWindow e st).port.cd = s.port.cd ∧ (s.feederWindow e st).port.refused = s.port.refused ∧
    (s.feederWindow e st).port.lineUp = s.port.lineUp ∧ (s.feederWindow e st).port.locked = s.port.locked ∧
    (s.feederWindow e st).port.intake = s.port.intake ∧
    (s.feederWindow e st).port.headLatched = s.port.headLatched ∧
    (s.feederWindow e st).port.byteIdx = s.port.byteIdx ∧
    (s.feederWindow e st).port.source = s.port.source ∧ (s.feederWindow e st).port.snap = s.port.snap ∧
    (s.feederWindow e st).port.snapPtr = s.port.snapPtr ∧
    (s.feederWindow e st).port.summaryLow = s.port.summaryLow ∧
    (s.feederWindow e st).port.dataOut = s.port.dataOut ∧
    (s.feederWindow e st).port.demand = s.port.demand ∧
    (s.feederWindow e st).port.roleValue = s.port.roleValue ∧
    (s.feederWindow e st).port.settings = s.port.settings := by
  simp only [State.feederWindow]
  repeat' split
  all_goals simp

@[simp] theorem feederUpdate_frame (s : State) (r : RoundRecord) (e : WindowEvent) :
    (s.feederUpdate r e).straps = s.straps ∧ (s.feederUpdate r e).pins = s.pins ∧
    (s.feederUpdate r e).line = s.line ∧ (s.feederUpdate r e).view = s.view ∧
    (s.feederUpdate r e).scan = s.scan ∧ (s.feederUpdate r e).pole = s.pole ∧
    (s.feederUpdate r e).budget = s.budget ∧ (s.feederUpdate r e).ceil = s.ceil ∧
    (s.feederUpdate r e).arb = s.arb ∧ (s.feederUpdate r e).slate = s.slate ∧
    (s.feederUpdate r e).wakeDet = s.wakeDet ∧ (s.feederUpdate r e).pending = s.pending ∧
    (s.feederUpdate r e).port.cd = s.port.cd ∧ (s.feederUpdate r e).port.refused = s.port.refused ∧
    (s.feederUpdate r e).port.lineUp = s.port.lineUp ∧ (s.feederUpdate r e).port.locked = s.port.locked ∧
    (s.feederUpdate r e).port.intake = s.port.intake ∧
    (s.feederUpdate r e).port.headLatched = s.port.headLatched ∧
    (s.feederUpdate r e).port.byteIdx = s.port.byteIdx ∧ (s.feederUpdate r e).port.source = s.port.source ∧
    (s.feederUpdate r e).port.snap = s.port.snap ∧ (s.feederUpdate r e).port.snapPtr = s.port.snapPtr ∧
    (s.feederUpdate r e).port.summaryLow = s.port.summaryLow ∧
    (s.feederUpdate r e).port.dataOut = s.port.dataOut ∧ (s.feederUpdate r e).port.demand = s.port.demand ∧
    (s.feederUpdate r e).port.roleValue = s.port.roleValue ∧
    (s.feederUpdate r e).port.settings = s.port.settings := by
  simp only [State.feederUpdate]
  repeat' split
  all_goals simp

@[simp] theorem limpRestart_frame (s : State) (st : Nat) :
    (s.limpRestart st).straps = s.straps ∧ (s.limpRestart st).pins = s.pins ∧
    (s.limpRestart st).line = s.line ∧ (s.limpRestart st).view = s.view ∧ (s.limpRestart st).scan = s.scan ∧
    (s.limpRestart st).pole = s.pole ∧ (s.limpRestart st).budget = s.budget ∧
    (s.limpRestart st).ceil = s.ceil ∧ (s.limpRestart st).arb = s.arb ∧ (s.limpRestart st).slate = s.slate ∧
    (s.limpRestart st).wakeDet = s.wakeDet ∧ (s.limpRestart st).pending = s.pending ∧
    (s.limpRestart st).port.cd = s.port.cd ∧ (s.limpRestart st).port.refused = s.port.refused ∧
    (s.limpRestart st).port.lineUp = s.port.lineUp ∧ (s.limpRestart st).port.locked = s.port.locked ∧
    (s.limpRestart st).port.intake = s.port.intake ∧
    (s.limpRestart st).port.headLatched = s.port.headLatched ∧
    (s.limpRestart st).port.byteIdx = s.port.byteIdx ∧ (s.limpRestart st).port.source = s.port.source ∧
    (s.limpRestart st).port.snap = s.port.snap ∧ (s.limpRestart st).port.snapPtr = s.port.snapPtr ∧
    (s.limpRestart st).port.summaryLow = s.port.summaryLow ∧
    (s.limpRestart st).port.dataOut = s.port.dataOut ∧ (s.limpRestart st).port.demand = s.port.demand ∧
    (s.limpRestart st).port.roleValue = s.port.roleValue ∧
    (s.limpRestart st).port.settings = s.port.settings := by
  simp only [State.limpRestart]
  repeat' split
  all_goals simp

@[simp] theorem feederLimp_frame (s : State) (b : Bool) :
    (s.feederLimp b).straps = s.straps ∧ (s.feederLimp b).pins = s.pins ∧ (s.feederLimp b).line = s.line ∧
    (s.feederLimp b).view = s.view ∧ (s.feederLimp b).scan = s.scan ∧ (s.feederLimp b).pole = s.pole ∧
    (s.feederLimp b).budget = s.budget ∧ (s.feederLimp b).ceil = s.ceil ∧ (s.feederLimp b).arb = s.arb ∧
    (s.feederLimp b).slate = s.slate ∧ (s.feederLimp b).wakeDet = s.wakeDet ∧
    (s.feederLimp b).pending = s.pending ∧ (s.feederLimp b).port.cd = s.port.cd ∧
    (s.feederLimp b).port.refused = s.port.refused ∧ (s.feederLimp b).port.lineUp = s.port.lineUp ∧
    (s.feederLimp b).port.locked = s.port.locked ∧ (s.feederLimp b).port.intake = s.port.intake ∧
    (s.feederLimp b).port.headLatched = s.port.headLatched ∧
    (s.feederLimp b).port.byteIdx = s.port.byteIdx ∧ (s.feederLimp b).port.source = s.port.source ∧
    (s.feederLimp b).port.snap = s.port.snap ∧ (s.feederLimp b).port.snapPtr = s.port.snapPtr ∧
    (s.feederLimp b).port.summaryLow = s.port.summaryLow ∧ (s.feederLimp b).port.dataOut = s.port.dataOut ∧
    (s.feederLimp b).port.demand = s.port.demand ∧ (s.feederLimp b).port.roleValue = s.port.roleValue ∧
    (s.feederLimp b).port.settings = s.port.settings := by
  simp only [State.feederLimp]
  repeat' split
  all_goals simp

@[simp] theorem feederClear_frame (s : State) :
    (s.feederClear).straps = s.straps ∧ (s.feederClear).pins = s.pins ∧ (s.feederClear).line = s.line ∧
    (s.feederClear).view = s.view ∧ (s.feederClear).scan = s.scan ∧ (s.feederClear).pole = s.pole ∧
    (s.feederClear).budget = s.budget ∧ (s.feederClear).ceil = s.ceil ∧ (s.feederClear).arb = s.arb ∧
    (s.feederClear).slate = s.slate ∧ (s.feederClear).wakeDet = s.wakeDet ∧
    (s.feederClear).pending = s.pending ∧ (s.feederClear).port.cd = s.port.cd ∧
    (s.feederClear).port.refused = s.port.refused ∧ (s.feederClear).port.lineUp = s.port.lineUp ∧
    (s.feederClear).port.locked = s.port.locked ∧ (s.feederClear).port.intake = s.port.intake ∧
    (s.feederClear).port.headLatched = s.port.headLatched ∧ (s.feederClear).port.byteIdx = s.port.byteIdx ∧
    (s.feederClear).port.source = s.port.source ∧ (s.feederClear).port.snap = s.port.snap ∧
    (s.feederClear).port.snapPtr = s.port.snapPtr ∧ (s.feederClear).port.summaryLow = s.port.summaryLow ∧
    (s.feederClear).port.dataOut = s.port.dataOut ∧ (s.feederClear).port.demand = s.port.demand ∧
    (s.feederClear).port.roleValue = s.port.roleValue ∧
    (s.feederClear).port.settings = s.port.settings := by
  simp only [State.feederClear]
  repeat' split
  all_goals simp

@[simp] theorem grantNotice_frame (s : State) (b a st : Nat) :
    (s.grantNotice b a st).straps = s.straps ∧ (s.grantNotice b a st).pins = s.pins ∧
    (s.grantNotice b a st).line = s.line ∧ (s.grantNotice b a st).view = s.view ∧
    (s.grantNotice b a st).scan = s.scan ∧ (s.grantNotice b a st).pole = s.pole ∧
    (s.grantNotice b a st).budget = s.budget ∧ (s.grantNotice b a st).ceil = s.ceil ∧
    (s.grantNotice b a st).arb = s.arb ∧ (s.grantNotice b a st).feed = s.feed ∧
    (s.grantNotice b a st).slate = s.slate ∧ (s.grantNotice b a st).wakeDet = s.wakeDet ∧
    (s.grantNotice b a st).pending = s.pending ∧ (s.grantNotice b a st).port.cd = s.port.cd ∧
    (s.grantNotice b a st).port.refused = s.port.refused ∧
    (s.grantNotice b a st).port.lineUp = s.port.lineUp ∧
    (s.grantNotice b a st).port.locked = s.port.locked ∧
    (s.grantNotice b a st).port.intake = s.port.intake ∧
    (s.grantNotice b a st).port.headLatched = s.port.headLatched ∧
    (s.grantNotice b a st).port.byteIdx = s.port.byteIdx ∧
    (s.grantNotice b a st).port.source = s.port.source ∧ (s.grantNotice b a st).port.snap = s.port.snap ∧
    (s.grantNotice b a st).port.snapPtr = s.port.snapPtr ∧
    (s.grantNotice b a st).port.summaryLow = s.port.summaryLow ∧
    (s.grantNotice b a st).port.dataOut = s.port.dataOut ∧
    (s.grantNotice b a st).port.demand = s.port.demand ∧
    (s.grantNotice b a st).port.roleValue = s.port.roleValue ∧
    (s.grantNotice b a st).port.settings = s.port.settings := by
  simp only [State.grantNotice]
  repeat' split
  all_goals simp

@[simp] theorem budgetUpdate_frame (s : State) (r : RoundRecord) :
    (s.budgetUpdate r).straps = s.straps ∧ (s.budgetUpdate r).pins = s.pins ∧
    (s.budgetUpdate r).line = s.line ∧ (s.budgetUpdate r).view = s.view ∧ (s.budgetUpdate r).scan = s.scan ∧
    (s.budgetUpdate r).pole = s.pole ∧ (s.budgetUpdate r).ceil = s.ceil ∧ (s.budgetUpdate r).arb = s.arb ∧
    (s.budgetUpdate r).feed = s.feed ∧ (s.budgetUpdate r).slate = s.slate ∧
    (s.budgetUpdate r).wakeDet = s.wakeDet ∧ (s.budgetUpdate r).pending = s.pending ∧
    (s.budgetUpdate r).port.cd = s.port.cd ∧ (s.budgetUpdate r).port.refused = s.port.refused ∧
    (s.budgetUpdate r).port.lineUp = s.port.lineUp ∧ (s.budgetUpdate r).port.locked = s.port.locked ∧
    (s.budgetUpdate r).port.intake = s.port.intake ∧
    (s.budgetUpdate r).port.headLatched = s.port.headLatched ∧
    (s.budgetUpdate r).port.byteIdx = s.port.byteIdx ∧ (s.budgetUpdate r).port.source = s.port.source ∧
    (s.budgetUpdate r).port.snap = s.port.snap ∧ (s.budgetUpdate r).port.snapPtr = s.port.snapPtr ∧
    (s.budgetUpdate r).port.summaryLow = s.port.summaryLow ∧
    (s.budgetUpdate r).port.dataOut = s.port.dataOut ∧ (s.budgetUpdate r).port.demand = s.port.demand ∧
    (s.budgetUpdate r).port.roleValue = s.port.roleValue ∧
    (s.budgetUpdate r).port.settings = s.port.settings := by
  simp only [State.budgetUpdate]
  repeat' split
  all_goals simp

@[simp] theorem limpEvaluate_frame (s : State) :
    (s.limpEvaluate).straps = s.straps ∧ (s.limpEvaluate).pins = s.pins ∧ (s.limpEvaluate).line = s.line ∧
    (s.limpEvaluate).view = s.view ∧ (s.limpEvaluate).scan = s.scan ∧ (s.limpEvaluate).pole = s.pole ∧
    (s.limpEvaluate).ceil = s.ceil ∧ (s.limpEvaluate).arb = s.arb ∧ (s.limpEvaluate).feed = s.feed ∧
    (s.limpEvaluate).slate = s.slate ∧ (s.limpEvaluate).wakeDet = s.wakeDet ∧
    (s.limpEvaluate).pending = s.pending ∧ (s.limpEvaluate).port.cd = s.port.cd ∧
    (s.limpEvaluate).port.refused = s.port.refused ∧ (s.limpEvaluate).port.lineUp = s.port.lineUp ∧
    (s.limpEvaluate).port.locked = s.port.locked ∧ (s.limpEvaluate).port.intake = s.port.intake ∧
    (s.limpEvaluate).port.headLatched = s.port.headLatched ∧
    (s.limpEvaluate).port.byteIdx = s.port.byteIdx ∧ (s.limpEvaluate).port.source = s.port.source ∧
    (s.limpEvaluate).port.snap = s.port.snap ∧ (s.limpEvaluate).port.snapPtr = s.port.snapPtr ∧
    (s.limpEvaluate).port.summaryLow = s.port.summaryLow ∧ (s.limpEvaluate).port.dataOut = s.port.dataOut ∧
    (s.limpEvaluate).port.demand = s.port.demand ∧ (s.limpEvaluate).port.roleValue = s.port.roleValue ∧
    (s.limpEvaluate).port.settings = s.port.settings := by
  simp only [State.limpEvaluate]
  simp

@[simp] theorem putCeil_frame (s : State) (c : Ceil) (st : Nat) :
    (s.putCeil c st).straps = s.straps ∧ (s.putCeil c st).pins = s.pins ∧ (s.putCeil c st).line = s.line ∧
    (s.putCeil c st).view = s.view ∧ (s.putCeil c st).scan = s.scan ∧ (s.putCeil c st).pole = s.pole ∧
    (s.putCeil c st).budget = s.budget ∧ (s.putCeil c st).arb = s.arb ∧ (s.putCeil c st).feed = s.feed ∧
    (s.putCeil c st).slate = s.slate ∧ (s.putCeil c st).wakeDet = s.wakeDet ∧
    (s.putCeil c st).pending = s.pending ∧ (s.putCeil c st).port.cd = s.port.cd ∧
    (s.putCeil c st).port.refused = s.port.refused ∧ (s.putCeil c st).port.lineUp = s.port.lineUp ∧
    (s.putCeil c st).port.locked = s.port.locked ∧ (s.putCeil c st).port.intake = s.port.intake ∧
    (s.putCeil c st).port.headLatched = s.port.headLatched ∧
    (s.putCeil c st).port.byteIdx = s.port.byteIdx ∧ (s.putCeil c st).port.source = s.port.source ∧
    (s.putCeil c st).port.snap = s.port.snap ∧ (s.putCeil c st).port.snapPtr = s.port.snapPtr ∧
    (s.putCeil c st).port.summaryLow = s.port.summaryLow ∧ (s.putCeil c st).port.dataOut = s.port.dataOut ∧
    (s.putCeil c st).port.demand = s.port.demand ∧ (s.putCeil c st).port.roleValue = s.port.roleValue ∧
    (s.putCeil c st).port.settings = s.port.settings := by
  simp only [State.putCeil]
  repeat' split
  all_goals simp

@[simp] theorem ceilingUpdate_frame (s : State) (r : RoundRecord) (e : WindowEvent) :
    (s.ceilingUpdate r e).straps = s.straps ∧ (s.ceilingUpdate r e).pins = s.pins ∧
    (s.ceilingUpdate r e).line = s.line ∧ (s.ceilingUpdate r e).view = s.view ∧
    (s.ceilingUpdate r e).scan = s.scan ∧ (s.ceilingUpdate r e).pole = s.pole ∧
    (s.ceilingUpdate r e).budget = s.budget ∧ (s.ceilingUpdate r e).arb = s.arb ∧
    (s.ceilingUpdate r e).feed = s.feed ∧ (s.ceilingUpdate r e).slate = s.slate ∧
    (s.ceilingUpdate r e).wakeDet = s.wakeDet ∧ (s.ceilingUpdate r e).pending = s.pending ∧
    (s.ceilingUpdate r e).port.cd = s.port.cd ∧ (s.ceilingUpdate r e).port.refused = s.port.refused ∧
    (s.ceilingUpdate r e).port.lineUp = s.port.lineUp ∧ (s.ceilingUpdate r e).port.locked = s.port.locked ∧
    (s.ceilingUpdate r e).port.intake = s.port.intake ∧
    (s.ceilingUpdate r e).port.headLatched = s.port.headLatched ∧
    (s.ceilingUpdate r e).port.byteIdx = s.port.byteIdx ∧
    (s.ceilingUpdate r e).port.source = s.port.source ∧ (s.ceilingUpdate r e).port.snap = s.port.snap ∧
    (s.ceilingUpdate r e).port.snapPtr = s.port.snapPtr ∧
    (s.ceilingUpdate r e).port.summaryLow = s.port.summaryLow ∧
    (s.ceilingUpdate r e).port.dataOut = s.port.dataOut ∧
    (s.ceilingUpdate r e).port.demand = s.port.demand ∧
    (s.ceilingUpdate r e).port.roleValue = s.port.roleValue ∧
    (s.ceilingUpdate r e).port.settings = s.port.settings := by
  simp only [State.ceilingUpdate]
  repeat' split
  all_goals simp

@[simp] theorem ceilingLimp_frame (s : State) :
    (s.ceilingLimp).straps = s.straps ∧ (s.ceilingLimp).pins = s.pins ∧ (s.ceilingLimp).line = s.line ∧
    (s.ceilingLimp).view = s.view ∧ (s.ceilingLimp).scan = s.scan ∧ (s.ceilingLimp).pole = s.pole ∧
    (s.ceilingLimp).budget = s.budget ∧ (s.ceilingLimp).arb = s.arb ∧ (s.ceilingLimp).feed = s.feed ∧
    (s.ceilingLimp).slate = s.slate ∧ (s.ceilingLimp).wakeDet = s.wakeDet ∧
    (s.ceilingLimp).pending = s.pending ∧ (s.ceilingLimp).port.cd = s.port.cd ∧
    (s.ceilingLimp).port.refused = s.port.refused ∧ (s.ceilingLimp).port.lineUp = s.port.lineUp ∧
    (s.ceilingLimp).port.locked = s.port.locked ∧ (s.ceilingLimp).port.intake = s.port.intake ∧
    (s.ceilingLimp).port.headLatched = s.port.headLatched ∧ (s.ceilingLimp).port.byteIdx = s.port.byteIdx ∧
    (s.ceilingLimp).port.source = s.port.source ∧ (s.ceilingLimp).port.snap = s.port.snap ∧
    (s.ceilingLimp).port.snapPtr = s.port.snapPtr ∧ (s.ceilingLimp).port.summaryLow = s.port.summaryLow ∧
    (s.ceilingLimp).port.dataOut = s.port.dataOut ∧ (s.ceilingLimp).port.demand = s.port.demand ∧
    (s.ceilingLimp).port.roleValue = s.port.roleValue ∧
    (s.ceilingLimp).port.settings = s.port.settings := by
  simp only [State.ceilingLimp]
  repeat' split
  all_goals simp

@[simp] theorem ceilingLimpEntry_frame (s : State) :
    (s.ceilingLimpEntry).straps = s.straps ∧ (s.ceilingLimpEntry).pins = s.pins ∧
    (s.ceilingLimpEntry).line = s.line ∧ (s.ceilingLimpEntry).view = s.view ∧
    (s.ceilingLimpEntry).scan = s.scan ∧ (s.ceilingLimpEntry).pole = s.pole ∧
    (s.ceilingLimpEntry).budget = s.budget ∧ (s.ceilingLimpEntry).arb = s.arb ∧
    (s.ceilingLimpEntry).feed = s.feed ∧ (s.ceilingLimpEntry).slate = s.slate ∧
    (s.ceilingLimpEntry).wakeDet = s.wakeDet ∧ (s.ceilingLimpEntry).pending = s.pending ∧
    (s.ceilingLimpEntry).port.cd = s.port.cd ∧ (s.ceilingLimpEntry).port.refused = s.port.refused ∧
    (s.ceilingLimpEntry).port.lineUp = s.port.lineUp ∧ (s.ceilingLimpEntry).port.locked = s.port.locked ∧
    (s.ceilingLimpEntry).port.intake = s.port.intake ∧
    (s.ceilingLimpEntry).port.headLatched = s.port.headLatched ∧
    (s.ceilingLimpEntry).port.byteIdx = s.port.byteIdx ∧ (s.ceilingLimpEntry).port.source = s.port.source ∧
    (s.ceilingLimpEntry).port.snap = s.port.snap ∧ (s.ceilingLimpEntry).port.snapPtr = s.port.snapPtr ∧
    (s.ceilingLimpEntry).port.summaryLow = s.port.summaryLow ∧
    (s.ceilingLimpEntry).port.dataOut = s.port.dataOut ∧ (s.ceilingLimpEntry).port.demand = s.port.demand ∧
    (s.ceilingLimpEntry).port.roleValue = s.port.roleValue ∧
    (s.ceilingLimpEntry).port.settings = s.port.settings := by
  simp only [State.ceilingLimpEntry]
  repeat' split
  all_goals simp

@[simp] theorem ceilingCutNow_frame (s : State) :
    (s.ceilingCutNow).straps = s.straps ∧ (s.ceilingCutNow).pins = s.pins ∧
    (s.ceilingCutNow).line = s.line ∧ (s.ceilingCutNow).view = s.view ∧ (s.ceilingCutNow).scan = s.scan ∧
    (s.ceilingCutNow).pole = s.pole ∧ (s.ceilingCutNow).budget = s.budget ∧ (s.ceilingCutNow).arb = s.arb ∧
    (s.ceilingCutNow).feed = s.feed ∧ (s.ceilingCutNow).slate = s.slate ∧
    (s.ceilingCutNow).wakeDet = s.wakeDet ∧ (s.ceilingCutNow).pending = s.pending ∧
    (s.ceilingCutNow).port.cd = s.port.cd ∧ (s.ceilingCutNow).port.refused = s.port.refused ∧
    (s.ceilingCutNow).port.lineUp = s.port.lineUp ∧ (s.ceilingCutNow).port.locked = s.port.locked ∧
    (s.ceilingCutNow).port.intake = s.port.intake ∧
    (s.ceilingCutNow).port.headLatched = s.port.headLatched ∧
    (s.ceilingCutNow).port.byteIdx = s.port.byteIdx ∧ (s.ceilingCutNow).port.source = s.port.source ∧
    (s.ceilingCutNow).port.snap = s.port.snap ∧ (s.ceilingCutNow).port.snapPtr = s.port.snapPtr ∧
    (s.ceilingCutNow).port.summaryLow = s.port.summaryLow ∧
    (s.ceilingCutNow).port.dataOut = s.port.dataOut ∧ (s.ceilingCutNow).port.demand = s.port.demand ∧
    (s.ceilingCutNow).port.roleValue = s.port.roleValue ∧
    (s.ceilingCutNow).port.settings = s.port.settings := by
  simp only [State.ceilingCutNow]
  repeat' split
  all_goals simp

@[simp] theorem clearCeil_frame (s : State) :
    (s.clearCeil).straps = s.straps ∧ (s.clearCeil).pins = s.pins ∧ (s.clearCeil).line = s.line ∧
    (s.clearCeil).view = s.view ∧ (s.clearCeil).scan = s.scan ∧ (s.clearCeil).pole = s.pole ∧
    (s.clearCeil).budget = s.budget ∧ (s.clearCeil).arb = s.arb ∧ (s.clearCeil).feed = s.feed ∧
    (s.clearCeil).slate = s.slate ∧ (s.clearCeil).wakeDet = s.wakeDet ∧ (s.clearCeil).port = s.port ∧
    (s.clearCeil).pending = s.pending := by
  simp only [State.clearCeil]
  repeat' split
  all_goals simp

@[simp] theorem regenUpdate_frame (s : State) (r : RoundRecord) :
    (s.regenUpdate r).straps = s.straps ∧ (s.regenUpdate r).pins = s.pins ∧
    (s.regenUpdate r).line = s.line ∧ (s.regenUpdate r).view = s.view ∧ (s.regenUpdate r).scan = s.scan ∧
    (s.regenUpdate r).pole = s.pole ∧ (s.regenUpdate r).budget = s.budget ∧ (s.regenUpdate r).arb = s.arb ∧
    (s.regenUpdate r).feed = s.feed ∧ (s.regenUpdate r).slate = s.slate ∧
    (s.regenUpdate r).wakeDet = s.wakeDet ∧ (s.regenUpdate r).port = s.port ∧
    (s.regenUpdate r).pending = s.pending := by
  simp only [State.regenUpdate]
  repeat' split
  all_goals simp

@[simp] theorem windowNotice_frame (s : State) (b : Holder) (n : Option (Nat × Nat)) (st : Nat) :
    (s.windowNotice b n st).straps = s.straps ∧ (s.windowNotice b n st).pins = s.pins ∧
    (s.windowNotice b n st).line = s.line ∧ (s.windowNotice b n st).view = s.view ∧
    (s.windowNotice b n st).scan = s.scan ∧ (s.windowNotice b n st).pole = s.pole ∧
    (s.windowNotice b n st).budget = s.budget ∧ (s.windowNotice b n st).ceil = s.ceil ∧
    (s.windowNotice b n st).arb = s.arb ∧ (s.windowNotice b n st).feed = s.feed ∧
    (s.windowNotice b n st).slate = s.slate ∧ (s.windowNotice b n st).wakeDet = s.wakeDet ∧
    (s.windowNotice b n st).pending = s.pending ∧ (s.windowNotice b n st).port.cd = s.port.cd ∧
    (s.windowNotice b n st).port.refused = s.port.refused ∧
    (s.windowNotice b n st).port.lineUp = s.port.lineUp ∧
    (s.windowNotice b n st).port.locked = s.port.locked ∧
    (s.windowNotice b n st).port.intake = s.port.intake ∧
    (s.windowNotice b n st).port.headLatched = s.port.headLatched ∧
    (s.windowNotice b n st).port.byteIdx = s.port.byteIdx ∧
    (s.windowNotice b n st).port.source = s.port.source ∧ (s.windowNotice b n st).port.snap = s.port.snap ∧
    (s.windowNotice b n st).port.snapPtr = s.port.snapPtr ∧
    (s.windowNotice b n st).port.summaryLow = s.port.summaryLow ∧
    (s.windowNotice b n st).port.dataOut = s.port.dataOut ∧
    (s.windowNotice b n st).port.demand = s.port.demand ∧
    (s.windowNotice b n st).port.roleValue = s.port.roleValue ∧
    (s.windowNotice b n st).port.settings = s.port.settings := by
  simp only [State.windowNotice]
  repeat' split
  all_goals simp

@[simp] theorem arbUpdate_frame (s : State) (r : RoundRecord) :
    (s.arbUpdate r).straps = s.straps ∧ (s.arbUpdate r).pins = s.pins ∧ (s.arbUpdate r).line = s.line ∧
    (s.arbUpdate r).view = s.view ∧ (s.arbUpdate r).scan = s.scan ∧ (s.arbUpdate r).pole = s.pole ∧
    (s.arbUpdate r).budget = s.budget ∧ (s.arbUpdate r).ceil = s.ceil ∧ (s.arbUpdate r).feed = s.feed ∧
    (s.arbUpdate r).slate = s.slate ∧ (s.arbUpdate r).wakeDet = s.wakeDet ∧
    (s.arbUpdate r).pending = s.pending ∧ (s.arbUpdate r).port.cd = s.port.cd ∧
    (s.arbUpdate r).port.refused = s.port.refused ∧ (s.arbUpdate r).port.lineUp = s.port.lineUp ∧
    (s.arbUpdate r).port.locked = s.port.locked ∧ (s.arbUpdate r).port.intake = s.port.intake ∧
    (s.arbUpdate r).port.headLatched = s.port.headLatched ∧ (s.arbUpdate r).port.byteIdx = s.port.byteIdx ∧
    (s.arbUpdate r).port.source = s.port.source ∧ (s.arbUpdate r).port.snap = s.port.snap ∧
    (s.arbUpdate r).port.snapPtr = s.port.snapPtr ∧ (s.arbUpdate r).port.summaryLow = s.port.summaryLow ∧
    (s.arbUpdate r).port.dataOut = s.port.dataOut ∧ (s.arbUpdate r).port.demand = s.port.demand ∧
    (s.arbUpdate r).port.roleValue = s.port.roleValue ∧
    (s.arbUpdate r).port.settings = s.port.settings := by
  simp only [State.arbUpdate]
  simp

@[simp] theorem dropWindow_frame (s : State) :
    (s.dropWindow).straps = s.straps ∧ (s.dropWindow).pins = s.pins ∧ (s.dropWindow).line = s.line ∧
    (s.dropWindow).view = s.view ∧ (s.dropWindow).scan = s.scan ∧ (s.dropWindow).pole = s.pole ∧
    (s.dropWindow).budget = s.budget ∧ (s.dropWindow).ceil = s.ceil ∧ (s.dropWindow).slate = s.slate ∧
    (s.dropWindow).wakeDet = s.wakeDet ∧ (s.dropWindow).pending = s.pending ∧
    (s.dropWindow).port.cd = s.port.cd ∧ (s.dropWindow).port.refused = s.port.refused ∧
    (s.dropWindow).port.lineUp = s.port.lineUp ∧ (s.dropWindow).port.locked = s.port.locked ∧
    (s.dropWindow).port.intake = s.port.intake ∧ (s.dropWindow).port.headLatched = s.port.headLatched ∧
    (s.dropWindow).port.byteIdx = s.port.byteIdx ∧ (s.dropWindow).port.source = s.port.source ∧
    (s.dropWindow).port.snap = s.port.snap ∧ (s.dropWindow).port.snapPtr = s.port.snapPtr ∧
    (s.dropWindow).port.summaryLow = s.port.summaryLow ∧ (s.dropWindow).port.dataOut = s.port.dataOut ∧
    (s.dropWindow).port.demand = s.port.demand ∧ (s.dropWindow).port.roleValue = s.port.roleValue ∧
    (s.dropWindow).port.settings = s.port.settings := by
  simp only [State.dropWindow]
  repeat' split
  all_goals simp

@[simp] theorem endByDisable_frame (s : State) :
    (s.endByDisable).straps = s.straps ∧ (s.endByDisable).pins = s.pins ∧ (s.endByDisable).line = s.line ∧
    (s.endByDisable).view = s.view ∧ (s.endByDisable).scan = s.scan ∧ (s.endByDisable).pole = s.pole ∧
    (s.endByDisable).budget = s.budget ∧ (s.endByDisable).ceil = s.ceil ∧ (s.endByDisable).feed = s.feed ∧
    (s.endByDisable).slate = s.slate ∧ (s.endByDisable).wakeDet = s.wakeDet ∧
    (s.endByDisable).pending = s.pending ∧ (s.endByDisable).port.cd = s.port.cd ∧
    (s.endByDisable).port.refused = s.port.refused ∧ (s.endByDisable).port.lineUp = s.port.lineUp ∧
    (s.endByDisable).port.locked = s.port.locked ∧ (s.endByDisable).port.intake = s.port.intake ∧
    (s.endByDisable).port.headLatched = s.port.headLatched ∧
    (s.endByDisable).port.byteIdx = s.port.byteIdx ∧ (s.endByDisable).port.source = s.port.source ∧
    (s.endByDisable).port.snap = s.port.snap ∧ (s.endByDisable).port.snapPtr = s.port.snapPtr ∧
    (s.endByDisable).port.summaryLow = s.port.summaryLow ∧ (s.endByDisable).port.dataOut = s.port.dataOut ∧
    (s.endByDisable).port.demand = s.port.demand ∧ (s.endByDisable).port.roleValue = s.port.roleValue ∧
    (s.endByDisable).port.settings = s.port.settings := by
  simp only [State.endByDisable]
  repeat' split
  all_goals simp

@[simp] theorem assertArcCut_frame (s : State) (st : Nat) :
    (s.assertArcCut st).straps = s.straps ∧ (s.assertArcCut st).pins = s.pins ∧
    (s.assertArcCut st).line = s.line ∧ (s.assertArcCut st).view = s.view ∧
    (s.assertArcCut st).scan = s.scan ∧ (s.assertArcCut st).budget = s.budget ∧
    (s.assertArcCut st).ceil = s.ceil ∧ (s.assertArcCut st).arb = s.arb ∧
    (s.assertArcCut st).feed = s.feed ∧ (s.assertArcCut st).slate = s.slate ∧
    (s.assertArcCut st).wakeDet = s.wakeDet ∧ (s.assertArcCut st).pending = s.pending ∧
    (s.assertArcCut st).port.cd = s.port.cd ∧ (s.assertArcCut st).port.refused = s.port.refused ∧
    (s.assertArcCut st).port.lineUp = s.port.lineUp ∧ (s.assertArcCut st).port.locked = s.port.locked ∧
    (s.assertArcCut st).port.intake = s.port.intake ∧
    (s.assertArcCut st).port.headLatched = s.port.headLatched ∧
    (s.assertArcCut st).port.byteIdx = s.port.byteIdx ∧ (s.assertArcCut st).port.source = s.port.source ∧
    (s.assertArcCut st).port.snap = s.port.snap ∧ (s.assertArcCut st).port.snapPtr = s.port.snapPtr ∧
    (s.assertArcCut st).port.summaryLow = s.port.summaryLow ∧
    (s.assertArcCut st).port.dataOut = s.port.dataOut ∧ (s.assertArcCut st).port.demand = s.port.demand ∧
    (s.assertArcCut st).port.roleValue = s.port.roleValue ∧
    (s.assertArcCut st).port.settings = s.port.settings := by
  simp only [State.assertArcCut]
  repeat' split
  all_goals simp

@[simp] theorem movePole_frame (s : State) (w : PoleName) (n : PoleState) (st : Nat) :
    (s.movePole w n st).straps = s.straps ∧ (s.movePole w n st).pins = s.pins ∧
    (s.movePole w n st).line = s.line ∧ (s.movePole w n st).view = s.view ∧
    (s.movePole w n st).scan = s.scan ∧ (s.movePole w n st).budget = s.budget ∧
    (s.movePole w n st).ceil = s.ceil ∧ (s.movePole w n st).arb = s.arb ∧
    (s.movePole w n st).feed = s.feed ∧ (s.movePole w n st).slate = s.slate ∧
    (s.movePole w n st).wakeDet = s.wakeDet ∧ (s.movePole w n st).pending = s.pending ∧
    (s.movePole w n st).port.cd = s.port.cd ∧ (s.movePole w n st).port.refused = s.port.refused ∧
    (s.movePole w n st).port.lineUp = s.port.lineUp ∧ (s.movePole w n st).port.locked = s.port.locked ∧
    (s.movePole w n st).port.intake = s.port.intake ∧
    (s.movePole w n st).port.headLatched = s.port.headLatched ∧
    (s.movePole w n st).port.byteIdx = s.port.byteIdx ∧ (s.movePole w n st).port.source = s.port.source ∧
    (s.movePole w n st).port.snap = s.port.snap ∧ (s.movePole w n st).port.snapPtr = s.port.snapPtr ∧
    (s.movePole w n st).port.summaryLow = s.port.summaryLow ∧
    (s.movePole w n st).port.dataOut = s.port.dataOut ∧ (s.movePole w n st).port.demand = s.port.demand ∧
    (s.movePole w n st).port.roleValue = s.port.roleValue ∧
    (s.movePole w n st).port.settings = s.port.settings := by
  simp only [State.movePole]
  repeat' split
  all_goals simp

@[simp] theorem clearDroppedOpen_frame (s : State) (w : PoleName) :
    (s.clearDroppedOpen w).straps = s.straps ∧ (s.clearDroppedOpen w).pins = s.pins ∧
    (s.clearDroppedOpen w).line = s.line ∧ (s.clearDroppedOpen w).view = s.view ∧
    (s.clearDroppedOpen w).scan = s.scan ∧ (s.clearDroppedOpen w).budget = s.budget ∧
    (s.clearDroppedOpen w).ceil = s.ceil ∧ (s.clearDroppedOpen w).arb = s.arb ∧
    (s.clearDroppedOpen w).feed = s.feed ∧ (s.clearDroppedOpen w).slate = s.slate ∧
    (s.clearDroppedOpen w).wakeDet = s.wakeDet ∧ (s.clearDroppedOpen w).port = s.port ∧
    (s.clearDroppedOpen w).pending = s.pending := by
  simp only [State.clearDroppedOpen]
  simp

@[simp] theorem releaseArcCut_frame (s : State) (st : Nat) :
    (s.releaseArcCut st).straps = s.straps ∧ (s.releaseArcCut st).pins = s.pins ∧
    (s.releaseArcCut st).line = s.line ∧ (s.releaseArcCut st).view = s.view ∧
    (s.releaseArcCut st).scan = s.scan ∧ (s.releaseArcCut st).budget = s.budget ∧
    (s.releaseArcCut st).ceil = s.ceil ∧ (s.releaseArcCut st).arb = s.arb ∧
    (s.releaseArcCut st).feed = s.feed ∧ (s.releaseArcCut st).slate = s.slate ∧
    (s.releaseArcCut st).wakeDet = s.wakeDet ∧ (s.releaseArcCut st).pending = s.pending ∧
    (s.releaseArcCut st).port.cd = s.port.cd ∧ (s.releaseArcCut st).port.refused = s.port.refused ∧
    (s.releaseArcCut st).port.lineUp = s.port.lineUp ∧ (s.releaseArcCut st).port.locked = s.port.locked ∧
    (s.releaseArcCut st).port.intake = s.port.intake ∧
    (s.releaseArcCut st).port.headLatched = s.port.headLatched ∧
    (s.releaseArcCut st).port.byteIdx = s.port.byteIdx ∧ (s.releaseArcCut st).port.source = s.port.source ∧
    (s.releaseArcCut st).port.snap = s.port.snap ∧ (s.releaseArcCut st).port.snapPtr = s.port.snapPtr ∧
    (s.releaseArcCut st).port.summaryLow = s.port.summaryLow ∧
    (s.releaseArcCut st).port.dataOut = s.port.dataOut ∧ (s.releaseArcCut st).port.demand = s.port.demand ∧
    (s.releaseArcCut st).port.roleValue = s.port.roleValue ∧
    (s.releaseArcCut st).port.settings = s.port.settings := by
  simp only [State.releaseArcCut]
  repeat' split
  all_goals simp

@[simp] theorem evalPole_frame (s : State) (w : PoleName) (z : Zone) (l : Bool) :
    (s.evalPole w z l).straps = s.straps ∧ (s.evalPole w z l).pins = s.pins ∧
    (s.evalPole w z l).line = s.line ∧ (s.evalPole w z l).view = s.view ∧ (s.evalPole w z l).scan = s.scan ∧
    (s.evalPole w z l).budget = s.budget ∧ (s.evalPole w z l).ceil = s.ceil ∧
    (s.evalPole w z l).arb = s.arb ∧ (s.evalPole w z l).feed = s.feed ∧ (s.evalPole w z l).slate = s.slate ∧
    (s.evalPole w z l).wakeDet = s.wakeDet ∧ (s.evalPole w z l).pending = s.pending ∧
    (s.evalPole w z l).port.cd = s.port.cd ∧ (s.evalPole w z l).port.refused = s.port.refused ∧
    (s.evalPole w z l).port.lineUp = s.port.lineUp ∧ (s.evalPole w z l).port.locked = s.port.locked ∧
    (s.evalPole w z l).port.intake = s.port.intake ∧
    (s.evalPole w z l).port.headLatched = s.port.headLatched ∧
    (s.evalPole w z l).port.byteIdx = s.port.byteIdx ∧ (s.evalPole w z l).port.source = s.port.source ∧
    (s.evalPole w z l).port.snap = s.port.snap ∧ (s.evalPole w z l).port.snapPtr = s.port.snapPtr ∧
    (s.evalPole w z l).port.summaryLow = s.port.summaryLow ∧
    (s.evalPole w z l).port.dataOut = s.port.dataOut ∧ (s.evalPole w z l).port.demand = s.port.demand ∧
    (s.evalPole w z l).port.roleValue = s.port.roleValue ∧
    (s.evalPole w z l).port.settings = s.port.settings := by
  simp only [State.evalPole]
  repeat' split
  all_goals simp

@[simp] theorem polePass_frame (s : State) :
    (s.polePass).straps = s.straps ∧ (s.polePass).pins = s.pins ∧ (s.polePass).line = s.line ∧
    (s.polePass).view = s.view ∧ (s.polePass).scan = s.scan ∧ (s.polePass).budget = s.budget ∧
    (s.polePass).ceil = s.ceil ∧ (s.polePass).arb = s.arb ∧ (s.polePass).feed = s.feed ∧
    (s.polePass).slate = s.slate ∧ (s.polePass).wakeDet = s.wakeDet ∧ (s.polePass).pending = s.pending ∧
    (s.polePass).port.cd = s.port.cd ∧ (s.polePass).port.refused = s.port.refused ∧
    (s.polePass).port.lineUp = s.port.lineUp ∧ (s.polePass).port.locked = s.port.locked ∧
    (s.polePass).port.intake = s.port.intake ∧ (s.polePass).port.headLatched = s.port.headLatched ∧
    (s.polePass).port.byteIdx = s.port.byteIdx ∧ (s.polePass).port.source = s.port.source ∧
    (s.polePass).port.snap = s.port.snap ∧ (s.polePass).port.snapPtr = s.port.snapPtr ∧
    (s.polePass).port.summaryLow = s.port.summaryLow ∧ (s.polePass).port.dataOut = s.port.dataOut ∧
    (s.polePass).port.demand = s.port.demand ∧ (s.polePass).port.roleValue = s.port.roleValue ∧
    (s.polePass).port.settings = s.port.settings := by
  simp only [State.polePass]
  repeat' split
  all_goals simp

@[simp] theorem lowerGap_frame (s : State) (w : PoleName) (st : Nat) :
    (s.lowerGap w st).straps = s.straps ∧ (s.lowerGap w st).pins = s.pins ∧
    (s.lowerGap w st).line = s.line ∧ (s.lowerGap w st).view = s.view ∧ (s.lowerGap w st).scan = s.scan ∧
    (s.lowerGap w st).budget = s.budget ∧ (s.lowerGap w st).ceil = s.ceil ∧ (s.lowerGap w st).arb = s.arb ∧
    (s.lowerGap w st).feed = s.feed ∧ (s.lowerGap w st).slate = s.slate ∧
    (s.lowerGap w st).wakeDet = s.wakeDet ∧ (s.lowerGap w st).pending = s.pending ∧
    (s.lowerGap w st).port.cd = s.port.cd ∧ (s.lowerGap w st).port.refused = s.port.refused ∧
    (s.lowerGap w st).port.lineUp = s.port.lineUp ∧ (s.lowerGap w st).port.locked = s.port.locked ∧
    (s.lowerGap w st).port.intake = s.port.intake ∧
    (s.lowerGap w st).port.headLatched = s.port.headLatched ∧
    (s.lowerGap w st).port.byteIdx = s.port.byteIdx ∧ (s.lowerGap w st).port.source = s.port.source ∧
    (s.lowerGap w st).port.snap = s.port.snap ∧ (s.lowerGap w st).port.snapPtr = s.port.snapPtr ∧
    (s.lowerGap w st).port.summaryLow = s.port.summaryLow ∧
    (s.lowerGap w st).port.dataOut = s.port.dataOut ∧ (s.lowerGap w st).port.demand = s.port.demand ∧
    (s.lowerGap w st).port.roleValue = s.port.roleValue ∧
    (s.lowerGap w st).port.settings = s.port.settings := by
  simp only [State.lowerGap]
  repeat' split
  all_goals simp

@[simp] theorem ackPole_frame (s : State) (w : PoleName) (st : Nat) :
    (s.ackPole w st).straps = s.straps ∧ (s.ackPole w st).pins = s.pins ∧ (s.ackPole w st).line = s.line ∧
    (s.ackPole w st).view = s.view ∧ (s.ackPole w st).scan = s.scan ∧ (s.ackPole w st).budget = s.budget ∧
    (s.ackPole w st).ceil = s.ceil ∧ (s.ackPole w st).arb = s.arb ∧ (s.ackPole w st).feed = s.feed ∧
    (s.ackPole w st).slate = s.slate ∧ (s.ackPole w st).wakeDet = s.wakeDet ∧
    (s.ackPole w st).pending = s.pending ∧ (s.ackPole w st).port.cd = s.port.cd ∧
    (s.ackPole w st).port.refused = s.port.refused ∧ (s.ackPole w st).port.lineUp = s.port.lineUp ∧
    (s.ackPole w st).port.locked = s.port.locked ∧ (s.ackPole w st).port.intake = s.port.intake ∧
    (s.ackPole w st).port.headLatched = s.port.headLatched ∧
    (s.ackPole w st).port.byteIdx = s.port.byteIdx ∧ (s.ackPole w st).port.source = s.port.source ∧
    (s.ackPole w st).port.snap = s.port.snap ∧ (s.ackPole w st).port.snapPtr = s.port.snapPtr ∧
    (s.ackPole w st).port.summaryLow = s.port.summaryLow ∧ (s.ackPole w st).port.dataOut = s.port.dataOut ∧
    (s.ackPole w st).port.demand = s.port.demand ∧ (s.ackPole w st).port.roleValue = s.port.roleValue ∧
    (s.ackPole w st).port.settings = s.port.settings := by
  simp only [State.ackPole]
  repeat' split
  all_goals simp

@[simp] theorem poleUpdate_frame (s : State) (r : RoundRecord) :
    (s.poleUpdate r).straps = s.straps ∧ (s.poleUpdate r).pins = s.pins ∧ (s.poleUpdate r).line = s.line ∧
    (s.poleUpdate r).view = s.view ∧ (s.poleUpdate r).scan = s.scan ∧ (s.poleUpdate r).budget = s.budget ∧
    (s.poleUpdate r).ceil = s.ceil ∧ (s.poleUpdate r).arb = s.arb ∧ (s.poleUpdate r).feed = s.feed ∧
    (s.poleUpdate r).slate = s.slate ∧ (s.poleUpdate r).wakeDet = s.wakeDet ∧
    (s.poleUpdate r).pending = s.pending ∧ (s.poleUpdate r).port.cd = s.port.cd ∧
    (s.poleUpdate r).port.refused = s.port.refused ∧ (s.poleUpdate r).port.lineUp = s.port.lineUp ∧
    (s.poleUpdate r).port.locked = s.port.locked ∧ (s.poleUpdate r).port.intake = s.port.intake ∧
    (s.poleUpdate r).port.headLatched = s.port.headLatched ∧
    (s.poleUpdate r).port.byteIdx = s.port.byteIdx ∧ (s.poleUpdate r).port.source = s.port.source ∧
    (s.poleUpdate r).port.snap = s.port.snap ∧ (s.poleUpdate r).port.snapPtr = s.port.snapPtr ∧
    (s.poleUpdate r).port.summaryLow = s.port.summaryLow ∧ (s.poleUpdate r).port.dataOut = s.port.dataOut ∧
    (s.poleUpdate r).port.demand = s.port.demand ∧ (s.poleUpdate r).port.roleValue = s.port.roleValue ∧
    (s.poleUpdate r).port.settings = s.port.settings := by
  simp only [State.poleUpdate]
  repeat' split
  all_goals simp

@[simp] theorem poleStart_frame (s : State) :
    (s.poleStart).straps = s.straps ∧ (s.poleStart).pins = s.pins ∧ (s.poleStart).line = s.line ∧
    (s.poleStart).view = s.view ∧ (s.poleStart).scan = s.scan ∧ (s.poleStart).budget = s.budget ∧
    (s.poleStart).ceil = s.ceil ∧ (s.poleStart).arb = s.arb ∧ (s.poleStart).feed = s.feed ∧
    (s.poleStart).slate = s.slate ∧ (s.poleStart).wakeDet = s.wakeDet ∧ (s.poleStart).port = s.port ∧
    (s.poleStart).pending = s.pending := by
  simp only [State.poleStart]
  repeat' split
  all_goals simp

@[simp] theorem captureB_frame (s : State) :
    (s.captureB).straps = s.straps ∧ (s.captureB).pins = s.pins ∧ (s.captureB).line = s.line ∧
    (s.captureB).view = s.view ∧ (s.captureB).pole = s.pole ∧ (s.captureB).budget = s.budget ∧
    (s.captureB).ceil = s.ceil ∧ (s.captureB).arb = s.arb ∧ (s.captureB).feed = s.feed ∧
    (s.captureB).slate = s.slate ∧ (s.captureB).wakeDet = s.wakeDet ∧ (s.captureB).port = s.port ∧
    (s.captureB).pending = s.pending := by
  simp only [State.captureB]
  repeat' split
  all_goals simp

@[simp] theorem scanWake_frame (s : State) :
    (s.scanWake).straps = s.straps ∧ (s.scanWake).pins = s.pins ∧ (s.scanWake).line = s.line ∧
    (s.scanWake).view = s.view ∧ (s.scanWake).pole = s.pole ∧ (s.scanWake).budget = s.budget ∧
    (s.scanWake).ceil = s.ceil ∧ (s.scanWake).arb = s.arb ∧ (s.scanWake).feed = s.feed ∧
    (s.scanWake).slate = s.slate ∧ (s.scanWake).wakeDet = s.wakeDet ∧ (s.scanWake).port = s.port ∧
    (s.scanWake).pending = s.pending := by
  simp only [State.scanWake]
  repeat' split
  all_goals simp

@[simp] theorem trip_frame (s : State) :
    (s.trip).straps = s.straps ∧ (s.trip).pins = s.pins ∧ (s.trip).line = s.line ∧ (s.trip).view = s.view ∧
    (s.trip).scan = s.scan ∧ (s.trip).pole = s.pole ∧ (s.trip).arb = s.arb ∧ (s.trip).slate = s.slate ∧
    (s.trip).wakeDet = s.wakeDet ∧ (s.trip).pending = s.pending ∧ (s.trip).port.cd = s.port.cd ∧
    (s.trip).port.refused = s.port.refused ∧ (s.trip).port.lineUp = s.port.lineUp ∧
    (s.trip).port.locked = s.port.locked ∧ (s.trip).port.intake = s.port.intake ∧
    (s.trip).port.headLatched = s.port.headLatched ∧ (s.trip).port.byteIdx = s.port.byteIdx ∧
    (s.trip).port.source = s.port.source ∧ (s.trip).port.snap = s.port.snap ∧
    (s.trip).port.snapPtr = s.port.snapPtr ∧ (s.trip).port.summaryLow = s.port.summaryLow ∧
    (s.trip).port.dataOut = s.port.dataOut ∧ (s.trip).port.demand = s.port.demand ∧
    (s.trip).port.roleValue = s.port.roleValue ∧ (s.trip).port.settings = s.port.settings := by
  simp only [State.trip]
  simp

@[simp] theorem checkCurrent_frame (s : State) (i : Nat) :
    (s.checkCurrent i).straps = s.straps ∧ (s.checkCurrent i).pins = s.pins ∧
    (s.checkCurrent i).line = s.line ∧ (s.checkCurrent i).view = s.view ∧ (s.checkCurrent i).scan = s.scan ∧
    (s.checkCurrent i).pole = s.pole ∧ (s.checkCurrent i).arb = s.arb ∧ (s.checkCurrent i).slate = s.slate ∧
    (s.checkCurrent i).wakeDet = s.wakeDet ∧ (s.checkCurrent i).pending = s.pending ∧
    (s.checkCurrent i).port.cd = s.port.cd ∧ (s.checkCurrent i).port.refused = s.port.refused ∧
    (s.checkCurrent i).port.lineUp = s.port.lineUp ∧ (s.checkCurrent i).port.locked = s.port.locked ∧
    (s.checkCurrent i).port.intake = s.port.intake ∧
    (s.checkCurrent i).port.headLatched = s.port.headLatched ∧
    (s.checkCurrent i).port.byteIdx = s.port.byteIdx ∧ (s.checkCurrent i).port.source = s.port.source ∧
    (s.checkCurrent i).port.snap = s.port.snap ∧ (s.checkCurrent i).port.snapPtr = s.port.snapPtr ∧
    (s.checkCurrent i).port.summaryLow = s.port.summaryLow ∧
    (s.checkCurrent i).port.dataOut = s.port.dataOut ∧ (s.checkCurrent i).port.demand = s.port.demand ∧
    (s.checkCurrent i).port.roleValue = s.port.roleValue ∧
    (s.checkCurrent i).port.settings = s.port.settings := by
  simp only [State.checkCurrent]
  repeat' split
  all_goals simp

@[simp] theorem overdrawCheck_frame (s : State) (r : Raw) :
    (s.overdrawCheck r).straps = s.straps ∧ (s.overdrawCheck r).pins = s.pins ∧
    (s.overdrawCheck r).line = s.line ∧ (s.overdrawCheck r).view = s.view ∧
    (s.overdrawCheck r).scan = s.scan ∧ (s.overdrawCheck r).pole = s.pole ∧
    (s.overdrawCheck r).arb = s.arb ∧ (s.overdrawCheck r).slate = s.slate ∧
    (s.overdrawCheck r).wakeDet = s.wakeDet ∧ (s.overdrawCheck r).pending = s.pending ∧
    (s.overdrawCheck r).port.cd = s.port.cd ∧ (s.overdrawCheck r).port.refused = s.port.refused ∧
    (s.overdrawCheck r).port.lineUp = s.port.lineUp ∧ (s.overdrawCheck r).port.locked = s.port.locked ∧
    (s.overdrawCheck r).port.intake = s.port.intake ∧
    (s.overdrawCheck r).port.headLatched = s.port.headLatched ∧
    (s.overdrawCheck r).port.byteIdx = s.port.byteIdx ∧ (s.overdrawCheck r).port.source = s.port.source ∧
    (s.overdrawCheck r).port.snap = s.port.snap ∧ (s.overdrawCheck r).port.snapPtr = s.port.snapPtr ∧
    (s.overdrawCheck r).port.summaryLow = s.port.summaryLow ∧
    (s.overdrawCheck r).port.dataOut = s.port.dataOut ∧ (s.overdrawCheck r).port.demand = s.port.demand ∧
    (s.overdrawCheck r).port.roleValue = s.port.roleValue ∧
    (s.overdrawCheck r).port.settings = s.port.settings := by
  simp only [State.overdrawCheck]
  repeat' split
  all_goals simp

@[simp] theorem sounderOn_frame (s : State) (st : Nat) :
    (s.sounderOn st).straps = s.straps ∧ (s.sounderOn st).pins = s.pins ∧ (s.sounderOn st).line = s.line ∧
    (s.sounderOn st).view = s.view ∧ (s.sounderOn st).scan = s.scan ∧ (s.sounderOn st).pole = s.pole ∧
    (s.sounderOn st).budget = s.budget ∧ (s.sounderOn st).ceil = s.ceil ∧ (s.sounderOn st).arb = s.arb ∧
    (s.sounderOn st).feed = s.feed ∧ (s.sounderOn st).wakeDet = s.wakeDet ∧
    (s.sounderOn st).pending = s.pending ∧ (s.sounderOn st).port.cd = s.port.cd ∧
    (s.sounderOn st).port.refused = s.port.refused ∧ (s.sounderOn st).port.lineUp = s.port.lineUp ∧
    (s.sounderOn st).port.locked = s.port.locked ∧ (s.sounderOn st).port.intake = s.port.intake ∧
    (s.sounderOn st).port.headLatched = s.port.headLatched ∧
    (s.sounderOn st).port.byteIdx = s.port.byteIdx ∧ (s.sounderOn st).port.source = s.port.source ∧
    (s.sounderOn st).port.snap = s.port.snap ∧ (s.sounderOn st).port.snapPtr = s.port.snapPtr ∧
    (s.sounderOn st).port.summaryLow = s.port.summaryLow ∧ (s.sounderOn st).port.dataOut = s.port.dataOut ∧
    (s.sounderOn st).port.demand = s.port.demand ∧ (s.sounderOn st).port.roleValue = s.port.roleValue ∧
    (s.sounderOn st).port.settings = s.port.settings := by
  simp only [State.sounderOn]
  repeat' split
  all_goals simp

@[simp] theorem sounderOffCheck_frame (s : State) (st : Nat) :
    (s.sounderOffCheck st).straps = s.straps ∧ (s.sounderOffCheck st).pins = s.pins ∧
    (s.sounderOffCheck st).line = s.line ∧ (s.sounderOffCheck st).view = s.view ∧
    (s.sounderOffCheck st).scan = s.scan ∧ (s.sounderOffCheck st).pole = s.pole ∧
    (s.sounderOffCheck st).budget = s.budget ∧ (s.sounderOffCheck st).ceil = s.ceil ∧
    (s.sounderOffCheck st).arb = s.arb ∧ (s.sounderOffCheck st).feed = s.feed ∧
    (s.sounderOffCheck st).wakeDet = s.wakeDet ∧ (s.sounderOffCheck st).pending = s.pending ∧
    (s.sounderOffCheck st).port.cd = s.port.cd ∧ (s.sounderOffCheck st).port.refused = s.port.refused ∧
    (s.sounderOffCheck st).port.lineUp = s.port.lineUp ∧
    (s.sounderOffCheck st).port.locked = s.port.locked ∧
    (s.sounderOffCheck st).port.intake = s.port.intake ∧
    (s.sounderOffCheck st).port.headLatched = s.port.headLatched ∧
    (s.sounderOffCheck st).port.byteIdx = s.port.byteIdx ∧
    (s.sounderOffCheck st).port.source = s.port.source ∧ (s.sounderOffCheck st).port.snap = s.port.snap ∧
    (s.sounderOffCheck st).port.snapPtr = s.port.snapPtr ∧
    (s.sounderOffCheck st).port.summaryLow = s.port.summaryLow ∧
    (s.sounderOffCheck st).port.dataOut = s.port.dataOut ∧
    (s.sounderOffCheck st).port.demand = s.port.demand ∧
    (s.sounderOffCheck st).port.roleValue = s.port.roleValue ∧
    (s.sounderOffCheck st).port.settings = s.port.settings := by
  simp only [State.sounderOffCheck]
  repeat' split
  all_goals simp

@[simp] theorem slateUpdate_frame (s : State) (r : RoundRecord) :
    (s.slateUpdate r).straps = s.straps ∧ (s.slateUpdate r).pins = s.pins ∧
    (s.slateUpdate r).line = s.line ∧ (s.slateUpdate r).view = s.view ∧ (s.slateUpdate r).scan = s.scan ∧
    (s.slateUpdate r).pole = s.pole ∧ (s.slateUpdate r).budget = s.budget ∧
    (s.slateUpdate r).ceil = s.ceil ∧ (s.slateUpdate r).arb = s.arb ∧ (s.slateUpdate r).feed = s.feed ∧
    (s.slateUpdate r).wakeDet = s.wakeDet ∧ (s.slateUpdate r).pending = s.pending ∧
    (s.slateUpdate r).port.cd = s.port.cd ∧ (s.slateUpdate r).port.refused = s.port.refused ∧
    (s.slateUpdate r).port.lineUp = s.port.lineUp ∧ (s.slateUpdate r).port.locked = s.port.locked ∧
    (s.slateUpdate r).port.intake = s.port.intake ∧
    (s.slateUpdate r).port.headLatched = s.port.headLatched ∧
    (s.slateUpdate r).port.byteIdx = s.port.byteIdx ∧ (s.slateUpdate r).port.source = s.port.source ∧
    (s.slateUpdate r).port.snap = s.port.snap ∧ (s.slateUpdate r).port.snapPtr = s.port.snapPtr ∧
    (s.slateUpdate r).port.summaryLow = s.port.summaryLow ∧
    (s.slateUpdate r).port.dataOut = s.port.dataOut ∧ (s.slateUpdate r).port.demand = s.port.demand ∧
    (s.slateUpdate r).port.roleValue = s.port.roleValue ∧
    (s.slateUpdate r).port.settings = s.port.settings := by
  simp only [State.slateUpdate]
  repeat' split
  all_goals simp

@[simp] theorem slateStart_frame (s : State) :
    (s.slateStart).straps = s.straps ∧ (s.slateStart).pins = s.pins ∧ (s.slateStart).line = s.line ∧
    (s.slateStart).view = s.view ∧ (s.slateStart).scan = s.scan ∧ (s.slateStart).pole = s.pole ∧
    (s.slateStart).budget = s.budget ∧ (s.slateStart).ceil = s.ceil ∧ (s.slateStart).arb = s.arb ∧
    (s.slateStart).feed = s.feed ∧ (s.slateStart).wakeDet = s.wakeDet ∧ (s.slateStart).port = s.port ∧
    (s.slateStart).pending = s.pending := by
  simp only [State.slateStart]
  repeat' split
  all_goals simp

@[simp] theorem slateSleep_frame (s : State) :
    (s.slateSleep).straps = s.straps ∧ (s.slateSleep).pins = s.pins ∧ (s.slateSleep).line = s.line ∧
    (s.slateSleep).view = s.view ∧ (s.slateSleep).scan = s.scan ∧ (s.slateSleep).pole = s.pole ∧
    (s.slateSleep).budget = s.budget ∧ (s.slateSleep).ceil = s.ceil ∧ (s.slateSleep).arb = s.arb ∧
    (s.slateSleep).feed = s.feed ∧ (s.slateSleep).wakeDet = s.wakeDet ∧ (s.slateSleep).pending = s.pending ∧
    (s.slateSleep).port.cd = s.port.cd ∧ (s.slateSleep).port.refused = s.port.refused ∧
    (s.slateSleep).port.lineUp = s.port.lineUp ∧ (s.slateSleep).port.locked = s.port.locked ∧
    (s.slateSleep).port.intake = s.port.intake ∧ (s.slateSleep).port.headLatched = s.port.headLatched ∧
    (s.slateSleep).port.byteIdx = s.port.byteIdx ∧ (s.slateSleep).port.source = s.port.source ∧
    (s.slateSleep).port.snap = s.port.snap ∧ (s.slateSleep).port.snapPtr = s.port.snapPtr ∧
    (s.slateSleep).port.summaryLow = s.port.summaryLow ∧ (s.slateSleep).port.dataOut = s.port.dataOut ∧
    (s.slateSleep).port.demand = s.port.demand ∧ (s.slateSleep).port.roleValue = s.port.roleValue ∧
    (s.slateSleep).port.settings = s.port.settings := by
  simp only [State.slateSleep]
  repeat' split
  all_goals simp

@[simp] theorem slateWake_frame (s : State) :
    (s.slateWake).straps = s.straps ∧ (s.slateWake).pins = s.pins ∧ (s.slateWake).line = s.line ∧
    (s.slateWake).view = s.view ∧ (s.slateWake).scan = s.scan ∧ (s.slateWake).pole = s.pole ∧
    (s.slateWake).budget = s.budget ∧ (s.slateWake).ceil = s.ceil ∧ (s.slateWake).arb = s.arb ∧
    (s.slateWake).feed = s.feed ∧ (s.slateWake).wakeDet = s.wakeDet ∧ (s.slateWake).pending = s.pending ∧
    (s.slateWake).port.cd = s.port.cd ∧ (s.slateWake).port.refused = s.port.refused ∧
    (s.slateWake).port.lineUp = s.port.lineUp ∧ (s.slateWake).port.locked = s.port.locked ∧
    (s.slateWake).port.intake = s.port.intake ∧ (s.slateWake).port.headLatched = s.port.headLatched ∧
    (s.slateWake).port.byteIdx = s.port.byteIdx ∧ (s.slateWake).port.source = s.port.source ∧
    (s.slateWake).port.snap = s.port.snap ∧ (s.slateWake).port.snapPtr = s.port.snapPtr ∧
    (s.slateWake).port.summaryLow = s.port.summaryLow ∧ (s.slateWake).port.dataOut = s.port.dataOut ∧
    (s.slateWake).port.demand = s.port.demand ∧ (s.slateWake).port.roleValue = s.port.roleValue ∧
    (s.slateWake).port.settings = s.port.settings := by
  simp only [State.slateWake]
  repeat' split
  all_goals simp

@[simp] theorem slateReset_frame (s : State) :
    (s.slateReset).straps = s.straps ∧ (s.slateReset).pins = s.pins ∧ (s.slateReset).line = s.line ∧
    (s.slateReset).view = s.view ∧ (s.slateReset).scan = s.scan ∧ (s.slateReset).pole = s.pole ∧
    (s.slateReset).budget = s.budget ∧ (s.slateReset).ceil = s.ceil ∧ (s.slateReset).arb = s.arb ∧
    (s.slateReset).feed = s.feed ∧ (s.slateReset).wakeDet = s.wakeDet ∧ (s.slateReset).port = s.port ∧
    (s.slateReset).pending = s.pending := by
  simp only [State.slateReset]
  simp

end Sys2Proof.Laws
end

