-- ==== Sys2Proof/Laws/Ceilings.lean ====
section
/-!
SUPPORT. The ceiling record: each of its moves keeps the record well formed (R127) and at or below the own
grant (R129, R133).
-/

namespace Sys2Proof.Laws

open Sys2Proof.Machine

/-- The record is well formed, with `w` for a window held (R127, R128). -/
def recOk (w : Prop) (c : Ceil) : Prop :=
  (c.st = .heldZero → c.ceiling = 0) ∧ (c.st = .waiting → c.ceiling = 0) ∧
    (c.st = .running → 0 < c.ceiling) ∧ (c.cutHeld = true → c.st = .heldZero) ∧ (c.st = .ramping → w)

theorem ceilOk_iff (a : Arbiter) (c : Ceil) : ceilOk a c ↔ recOk (a.window ≠ none) c := Iff.rfl

/-- A view update leaves the record well formed and the ceiling within the grant (R129): a take holds the
window afterwards, and a record in RAMPING keeps it unless the window ended or was abandoned. -/
theorem act_ok (c : Ceil) (d g step : Nat) (cut : Bool) (e : WindowEvent) (w w' : Prop)
    (h : recOk w c) (ht : e.isTaken = true → w')
    (hk : w → e.isEnded = false → e.isAbandoned = false → w') :
    recOk w' (c.act d g step cut e) ∧ (c.act d g step cut e).ceiling ≤ g := by
  obtain ⟨h1, h2, h3, h4, h5⟩ := h
  obtain ⟨n, st, ch, lc, ro⟩ := c
  simp only at h1 h2 h3 h4 h5
  cases e <;> cases cut <;> cases st <;>
    simp [recOk, Ceil.act, Ceil.takeMove, Ceil.fitCase, Ceil.endMove, Ceil.cutCase, Ceil.zeroCase,
      Ceil.fallCase, Ceil.riseCase, zeroState, CeilState.moving, WindowEvent.isTaken, WindowEvent.isEnded,
      WindowEvent.isAbandoned] at * <;>
    repeat' split
  all_goals simp_all
  all_goals grind

/-- A limp evaluation leaves the record well formed and within the grant (R133). -/
theorem limpAct_ok (c : Ceil) (d g step : Nat) (cut : Bool) (w : Prop) (h : recOk w c) (hs : 1 ≤ step) :
    recOk w (c.limpAct d g step cut) ∧ (c.limpAct d g step cut).ceiling ≤ g := by
  obtain ⟨h1, h2, h3, h4, h5⟩ := h
  obtain ⟨n, st, ch, lc, ro⟩ := c
  simp only at h1 h2 h3 h4 h5
  cases cut <;> cases st <;>
    simp [recOk, Ceil.limpAct, Ceil.cutCase, Ceil.zeroCase, Ceil.fallCase, Ceil.riseCase, zeroState,
      CeilState.moving] at * <;>
    repeat' split
  all_goals simp_all
  all_goals grind

/-- Entry to limp leaves the record well formed without a window and within the grant (R133). -/
theorem limpEntry_ok (c : Ceil) (d g : Nat) (cut : Bool) (w w' : Prop) (h : recOk w c) :
    recOk w' (c.limpEntry d g cut) ∧ (c.limpEntry d g cut).ceiling ≤ g := by
  obtain ⟨h1, h2, h3, h4, h5⟩ := h
  obtain ⟨n, st, ch, lc, ro⟩ := c
  simp only at h1 h2 h3 h4 h5
  cases cut <;> cases st <;>
    simp [recOk, Ceil.limpEntry, Ceil.cutCase, Ceil.fallCase, zeroState] at * <;>
    repeat' split
  all_goals simp_all
  all_goals grind

/-- A DEMAND command keeps the record well formed (R132). -/
theorem demandMove_ok (c : Ceil) (d g : Nat) (w : Prop) (h : recOk w c) :
    recOk w (c.demandMove d g) ∧ (c.demandMove d g).ceiling = c.ceiling := by
  obtain ⟨h1, h2, h3, h4, h5⟩ := h
  simp only [Ceil.demandMove]
  repeat' split
  all_goals simp_all [recOk]

theorem cutCase_ok (c : Ceil) (w : Prop) : recOk w c.cutCase := by simp [recOk, Ceil.cutCase]

/-- The record after it is replaced (R137). -/
theorem putCeil_ceil (s : State) (c : Ceil) (st : Nat) : (s.putCeil c st).ceil = c := by
  simp only [State.putCeil]; split <;> simp

end Sys2Proof.Laws
end

