-- ==== Sys2Proof/Laws/Codes.lean ====
section
/-!
SUPPORT. The Code column of the commands (R186): what the write of each code is.
-/

namespace Sys2Proof

/-- The code of a command with parameters begins its intake. -/
@[simp] theorem commandByteRow_code (c : ParamCommand) (p : Pins) :
    commandByteRow c.code p = .commandIntake c := by
  cases c <;> rfl

/-- A byte that is the code of no command is an unknown command. -/
theorem commandByteRow_unknown (code : Byte) (p : Pins) (h : code ∉ commandCodes) :
    commandByteRow code p = .unknownCommand code := by
  unfold commandByteRow
  split <;> first | rfl | exact absurd (by simp [commandCodes, ← BitVec.toNat_inj, *]) h

/-- What a command byte is said to be is well formed: an unknown command is none of the codes. -/
theorem commandByteRow_wellFormed (code : Byte) (p : Pins) : (commandByteRow code p).wellFormed = true := by
  by_cases h : code ∈ commandCodes
  · simp only [commandCodes, List.mem_cons, List.not_mem_nil, or_false] at h
    rcases h with h | h | h | h | h | h | h | h | h | h <;> subst h <;> rfl
  · rw [commandByteRow_unknown code p h]
    simpa [Instr.wellFormed] using h

end Sys2Proof
end

