-- ==== Sys2Proof/Laws/Feeders.lean ====
section
/-!
SUPPORT. The feeder table: what a move does to the records, what shedding leaves (R159), and that every
operation keeps the records well formed (R154, R158).
-/

namespace Sys2Proof.Laws

open Sys2Proof.Machine

theorem get_set {α : Type} (v : Eight α) (i j : Fin 8) (a : α) :
    (v.set i a).get j = if j = i then a else v.get j := by
  fin_cases i <;> fin_cases j <;> rfl

theorem get_ofFn {α : Type} (f : Fin 8 → α) (i : Fin 8) : (Eight.ofFn f).get i = f i := by
  fin_cases i <;> rfl

theorem get_map {α β : Type} (g : α → β) (v : Eight α) (i : Fin 8) : (v.map g).get i = g (v.get i) := by
  fin_cases i <;> rfl

theorem get_all {α : Type} (a : α) (i : Fin 8) : (Eight.all a).get i = a := by
  fin_cases i <;> rfl

/-- The records after a move (R163). -/
theorem moveFeeder_feed (s : State) (i : Fin 8) (d : FeederState) (c st : Nat) :
    (s.moveFeeder i d c st).feed = s.feed.set i { s.feed.get i with st := d, stamp := st } := by
  simp [State.moveFeeder]

/-- How many feeders are energized. -/
def energizedCount (f : Eight Feeder) : Nat := (f.map (fun x => x.st.energized.toNat)).sum

theorem energizedCount_le (f : Eight Feeder) : energizedCount f ≤ 8 := by
  have h : ∀ b : Bool, b.toNat ≤ 1 := by decide
  have := h f.e0.st.energized; have := h f.e1.st.energized; have := h f.e2.st.energized
  have := h f.e3.st.energized; have := h f.e4.st.energized; have := h f.e5.st.energized
  have := h f.e6.st.energized; have := h f.e7.st.energized
  simp only [energizedCount, Eight.map, Eight.sum]; omega

/-- The feeder shed first is energized (R159). -/
theorem shedTarget_energized (f : Eight Feeder) (i : Fin 8) (h : shedTarget f = some i) :
    (f.get i).st.energized = true := by
  unfold shedTarget at h
  split at h
  · rename_i j hj
    cases h
    have := List.find?_some hj
    simp only [beq_iff_eq] at this; simp [this, FeederState.energized]
  · have := List.find?_some h
    simp only [beq_iff_eq] at this; simp [this, FeederState.energized]

theorem mem_allEight (i : Fin 8) : i ∈ allEight := by revert i; decide

/-- With no feeder to shed none is energized (R159). -/
theorem shedTarget_none (f : Eight Feeder) (h : shedTarget f = none) (i : Fin 8) :
    (f.get i).st.energized = false := by
  unfold shedTarget at h
  split at h
  · simp at h
  · rename_i hn
    have h1 := List.find?_eq_none.1 hn i (mem_allEight i)
    have h2 := List.find?_eq_none.1 h i (List.mem_reverse.2 (mem_allEight i))
    simp only [beq_iff_eq] at h1 h2
    cases hs : (f.get i).st <;> simp_all [FeederState.energized]

theorem energizedSum_zero (nom : Eight Nat) (f : Eight Feeder)
    (h : ∀ i, (f.get i).st.energized = false) : energizedSum nom f = 0 := by
  simp [energizedSum, Eight.sum, Eight.ofFn, feederLoad, h]

/-- One feeder less is energized when an energized one goes to WAITING. -/
theorem energizedCount_move (f : Eight Feeder) (i : Fin 8) (x : Feeder)
    (h : (f.get i).st.energized = true) (hx : x.st.energized = false) :
    energizedCount (f.set i x) + 1 = energizedCount f := by
  fin_cases i <;> simp only [energizedCount, Eight.map, Eight.sum, Eight.set, Eight.get] at h ⊢ <;>
    simp [h, hx] <;> omega

/-- Shedding with enough steps brings the energized sum to the grant or below (R159). -/
theorem shedLoop_sum (k g st : Nat) (s : State) (h : energizedCount s.feed ≤ k) :
    (State.shedLoop k g st s).energizedSum ≤ g := by
  induction k generalizing s with
  | zero =>
    have h0 : ∀ i, (s.feed.get i).st.energized = false := by
      intro i
      by_contra hc
      have := energizedCount_move s.feed i ⟨false, .off, 0⟩ (by simpa using hc) rfl
      omega
    simp [State.shedLoop, State.energizedSum, energizedSum_zero _ _ h0]
  | succ k ih =>
    simp only [State.shedLoop]
    split
    · split
      · rename_i i hi
        apply ih
        rw [moveFeeder_feed]
        have := energizedCount_move s.feed i { s.feed.get i with st := .waiting, stamp := st }
          (shedTarget_energized _ _ hi) rfl
        omega
      · rename_i hn
        simp [State.energizedSum, energizedSum_zero _ _ (shedTarget_none _ hn)]
    · omega

/-- After shedding, an AUX draws no more than its own grant (R159). -/
theorem shedToGrant_sum (s : State) (st : Nat) (h : s.isAux = true) :
    (s.shedToGrant st).energizedSum ≤ s.ownGrant := by
  simp only [State.shedToGrant, h, if_true]
  exact shedLoop_sum 8 _ _ _ (energizedCount_le _)

theorem find_allEight_first (p : Fin 8 → Bool) (i : Fin 8) (h : allEight.find? p = some i) (j : Fin 8)
    (hj : j < i) : p j = false := by
  rw [List.find?_eq_some_iff_getElem] at h
  obtain ⟨-, k, hk, rfl, hl⟩ := h
  have hv : ∀ k (hk : k < allEight.length), (allEight[k].val = k) := by decide
  have h8 : ∀ j : Fin 8, ∃ h : j.val < allEight.length, allEight[j.val] = j := by decide
  obtain ⟨hj', he⟩ := h8 j
  have := hl j.val (by have := hv k hk; omega)
  simpa [he] using this

theorem find_allEight_last (p : Fin 8 → Bool) (i : Fin 8) (h : allEight.reverse.find? p = some i) (j : Fin 8)
    (hj : i < j) : p j = false := by
  rw [List.find?_eq_some_iff_getElem] at h
  obtain ⟨-, k, hk, rfl, hl⟩ := h
  have hv : ∀ k (hk : k < allEight.reverse.length), (allEight.reverse[k].val = 7 - k) := by decide
  have h8 : ∀ j : Fin 8, ∃ h : 7 - j.val < allEight.reverse.length, allEight.reverse[7 - j.val] = j := by decide
  obtain ⟨hj', he⟩ := h8 j
  have := hl (7 - j.val) (by have := hv k hk; omega)
  simpa [he] using this

/-- The feeder shed first comes before every other energized feeder in the order of R159. -/
theorem shedTarget_first (f : Eight Feeder) (i : Fin 8) (h : shedTarget f = some i) (j : Fin 8) (hj : j ≠ i)
    (he : (f.get j).st.energized = true) : shedsBefore f i j = true := by
  unfold shedTarget at h
  split at h
  · rename_i k hk
    cases h
    have hi := List.find?_some hk
    have hf := find_allEight_first _ _ hk j
    rcases Nat.lt_trichotomy j.val i.val with hlt | heq | hgt
    · have := hf hlt
      cases hs : (f.get j).st <;> simp_all [shedsBefore, FeederState.energized]
    · exact absurd (Fin.ext heq) hj
    · have hij : i < j := hgt
      cases hs : (f.get j).st <;> simp_all [shedsBefore, FeederState.energized]
  · rename_i hn
    have h1 := List.find?_eq_none.1 hn j (mem_allEight j)
    have hi := List.find?_some h
    have hf := find_allEight_last _ _ h j
    rcases Nat.lt_trichotomy j.val i.val with hlt | heq | hgt
    · have hij : j < i := hlt
      cases hs : (f.get j).st <;> simp_all [shedsBefore, FeederState.energized]
    · exact absurd (Fin.ext heq) hj
    · have := hf hgt
      cases hs : (f.get j).st <;> simp_all [shedsBefore, FeederState.energized]

theorem shedsBefore_not_first (f : Eight Feeder) (i : Fin 8) (h : shedTarget f = some i) (j : Fin 8) :
    shedsBefore f j i = false := by
  unfold shedTarget at h
  split at h
  · rename_i k hk
    cases h
    have hi := List.find?_some hk
    have hf := find_allEight_first _ _ hk j
    by_cases hlt : j < i
    · have := hf hlt
      cases hs : (f.get j).st <;> simp_all [shedsBefore]
    · cases hs : (f.get j).st <;> simp_all [shedsBefore]
  · rename_i hn
    have h1 := List.find?_eq_none.1 hn j (mem_allEight j)
    have hi := List.find?_some h
    have hf := find_allEight_last _ _ h j
    by_cases hlt : i < j
    · have := hf hlt
      cases hs : (f.get j).st <;> simp_all [shedsBefore]
    · cases hs : (f.get j).st <;> simp_all [shedsBefore]

theorem shedsBefore_set (f : Eight Feeder) (i l k : Fin 8) (x : Feeder) (hl : l ≠ i) (hk : k ≠ i) :
    shedsBefore (f.set i x) l k = shedsBefore f l k := by
  simp [shedsBefore, get_set, hl, hk]

theorem sum_ofFn_congr (a b : Fin 8 → Nat) (h : ∀ l, a l = b l) : (Eight.ofFn a).sum = (Eight.ofFn b).sum := by
  simp [Eight.sum, Eight.ofFn, h]

theorem sum_ofFn_le (a b : Fin 8 → Nat) (h : ∀ l, a l ≤ b l) : (Eight.ofFn a).sum ≤ (Eight.ofFn b).sum := by
  have h0 := h 0; have h1 := h 1; have h2 := h 2; have h3 := h 3
  have h4 := h 4; have h5 := h 5; have h6 := h 6; have h7 := h 7
  simp only [Eight.sum, Eight.ofFn]; omega

theorem drawnWith_le (nom : Eight Nat) (f : Eight Feeder) (k : Fin 8) :
    drawnWith nom f k ≤ energizedSum nom f := by
  apply sum_ofFn_le
  intro l
  simp only [feederLoad]
  cases (f.get l).st.energized <;> cases shedsBefore f l k <;> simp

/-- The feeder shed first has all energized feeders drawn with it. -/
theorem drawnWith_first (nom : Eight Nat) (f : Eight Feeder) (i : Fin 8) (h : shedTarget f = some i) :
    drawnWith nom f i = energizedSum nom f := by
  apply sum_ofFn_congr
  intro l
  simp [feederLoad, shedsBefore_not_first f i h l]

/-- Shedding the first feeder leaves what is drawn with every other. -/
theorem drawnWith_shed (nom : Eight Nat) (f : Eight Feeder) (i k : Fin 8) (n : Nat) (h : shedTarget f = some i)
    (hk : k ≠ i) (he : (f.get k).st.energized = true) :
    drawnWith nom (f.set i { f.get i with st := .waiting, stamp := n }) k = drawnWith nom f k := by
  apply sum_ofFn_congr
  intro l
  by_cases hl : l = i
  · subst hl
    simp [get_set, FeederState.energized, shedTarget_first f l h k hk he]
  · simp [shedsBefore_set _ _ _ _ _ hl hk, get_set, hl]

theorem eight_ext {α : Type} (a b : Eight α) (h : ∀ i, a.get i = b.get i) : a = b := by
  have h0 := h 0; have h1 := h 1; have h2 := h 2; have h3 := h 3
  have h4 := h 4; have h5 := h 5; have h6 := h 6; have h7 := h 7
  cases a; cases b; simp_all [Eight.get]

/-- No feeder is shed where the energized sum is within the grant. -/
theorem shedTable_fits (nom : Eight Nat) (f : Eight Feeder) (g n : Nat) (h : energizedSum nom f ≤ g) :
    shedTable nom f g n = f := by
  apply eight_ext
  intro k
  have := drawnWith_le nom f k
  have hd : ¬g < drawnWith nom f k := by omega
  simp [shedTable, get_ofFn, isShed, hd]

/-- Shedding the first feeder and then the rest is shedding all. -/
theorem shedTable_first (nom : Eight Nat) (f : Eight Feeder) (g n : Nat) (i : Fin 8) (h : shedTarget f = some i)
    (hg : g < energizedSum nom f) :
    shedTable nom (f.set i { f.get i with st := .waiting, stamp := n }) g n = shedTable nom f g n := by
  apply eight_ext
  intro k
  simp only [shedTable, get_ofFn]
  by_cases hk : k = i
  · subst hk
    have h2 : isShed nom f g k = true := by
      simp [isShed, shedTarget_energized f k h, drawnWith_first nom f k h, hg]
    have h3 : isShed nom (f.set k { f.get k with st := .waiting, stamp := n }) g k = false := by
      simp [isShed, get_set, FeederState.energized]
    simp [h2, h3, get_set]
  · have h3 : isShed nom (f.set i { f.get i with st := .waiting, stamp := n }) g k = isShed nom f g k := by
      by_cases he : (f.get k).st.energized = true
      · simp [isShed, get_set, hk, he, drawnWith_shed nom f i k n h hk he]
      · simp [isShed, get_set, hk, he]
    simp [h3, get_set, hk]

/-- Shedding with enough steps is the table of R159 in closed form. -/
theorem shedLoop_feed (k g n : Nat) (s : State) (h : energizedCount s.feed ≤ k) :
    (State.shedLoop k g n s).feed = shedTable s.port.settings.nominal s.feed g n := by
  induction k generalizing s with
  | zero =>
    have h0 : ∀ i, (s.feed.get i).st.energized = false := by
      intro i
      by_contra hc
      have := energizedCount_move s.feed i ⟨false, .off, 0⟩ (by simpa using hc) rfl
      omega
    rw [shedTable_fits _ _ _ _ (by simp [energizedSum_zero _ _ h0])]
    rfl
  | succ k ih =>
    simp only [State.shedLoop]
    split
    · rename_i hg
      split
      · rename_i i hi
        rw [ih, moveFeeder_feed]
        · have hs : (s.moveFeeder i .waiting 4 n).port.settings = s.port.settings := by
            simp [State.moveFeeder]
          rw [hs]
          exact shedTable_first _ _ _ _ _ hi hg
        · rw [moveFeeder_feed]
          have := energizedCount_move s.feed i { s.feed.get i with st := .waiting, stamp := n }
            (shedTarget_energized _ _ hi) rfl
          omega
      · rename_i hn
        rw [shedTable_fits _ _ _ _ (by simp [energizedSum_zero _ _ (shedTarget_none _ hn)])]
    · rename_i hg
      exact (shedTable_fits _ _ _ _ (Nat.le_of_not_lt hg)).symm

/-- After shedding at an AUX the feeder table is that of R159 in closed form. -/
theorem shedToGrant_feed (s : State) (n : Nat) (h : s.isAux = true) :
    (s.shedToGrant n).feed = shedTable s.port.settings.nominal s.feed s.ownGrant n := by
  simp only [State.shedToGrant, h, if_true]
  exact shedLoop_feed 8 _ _ _ (energizedCount_le _)

/-- The records are well formed against a window (R154, R158). -/
def feedOk (a : Arbiter) (f : Eight Feeder) : Prop := ∀ i, feederOk a (f.get i) i

/-- A move of an enabled feeder to WAITING or ON keeps the records well formed. -/
theorem feedOk_move (s : State) (i : Fin 8) (d : FeederState) (c st : Nat) (a : Arbiter)
    (h : feedOk a s.feed) (he : (s.feed.get i).st ≠ .off) (hd : d = .waiting ∨ d = .on) :
    feedOk a (s.moveFeeder i d c st).feed := by
  intro j
  rw [moveFeeder_feed, get_set]
  split
  · have := h i
    subst_vars
    rcases hd with rfl | rfl <;> simp_all [feederOk]
  · exact h j

theorem feedOk_shedLoop (k g st : Nat) (s : State) (a : Arbiter) (h : feedOk a s.feed) :
    feedOk a (State.shedLoop k g st s).feed := by
  induction k generalizing s with
  | zero => exact h
  | succ k ih =>
    simp only [State.shedLoop]
    split
    · split
      · rename_i i hi
        refine ih _ (feedOk_move _ _ _ _ _ _ h ?_ (Or.inl rfl))
        have := shedTarget_energized _ _ hi
        intro hc; simp [hc, FeederState.energized] at this
      · exact h
    · exact h

theorem feedOk_shedToGrant (s : State) (st : Nat) (a : Arbiter) (h : feedOk a s.feed) :
    feedOk a (s.shedToGrant st).feed := by
  simp only [State.shedToGrant]; split
  · exact feedOk_shedLoop _ _ _ _ _ h
  · exact h

theorem feedOk_deenergize (l : List (Fin 8)) (c st : Nat) (s : State) (a : Arbiter) (h : feedOk a s.feed) :
    feedOk a (State.deenergize l c st s).feed := by
  induction l generalizing s with
  | nil => exact h
  | cons i r ih =>
    simp only [State.deenergize]
    apply ih
    split
    · rename_i he
      refine feedOk_move _ _ _ _ _ _ h ?_ (Or.inl rfl)
      intro hc; simp [hc, FeederState.energized] at he
    · exact h

/-- Every feeder of the list is de-energized, and none is energized anew (R160, R164). -/
theorem deenergize_off (l : List (Fin 8)) (c st : Nat) (s : State) (i : Fin 8)
    (h : i ∈ l ∨ (s.feed.get i).st.energized = false) :
    ((State.deenergize l c st s).feed.get i).st.energized = false := by
  induction l generalizing s with
  | nil =>
    rcases h with h | h
    · simp at h
    · exact h
  | cons j r ih =>
    simp only [State.deenergize]
    apply ih
    by_cases hij : i = j
    · subst hij
      right
      split
      · simp [moveFeeder_feed, get_set, FeederState.energized]
      · rename_i he; simpa using he
    · rcases h with h | h
      · left; simpa [hij] using h
      · right
        split
        · simpa [moveFeeder_feed, get_set, hij] using h
        · exact h

/-- De-energizing the whole table leaves no feeder energized (R160, R164). -/
theorem deenergize_all (c st : Nat) (s : State) (i : Fin 8) :
    ((State.deenergize allEight.reverse c st s).feed.get i).st.energized = false :=
  deenergize_off _ _ _ _ _ (Or.inl (List.mem_reverse.2 (mem_allEight i)))

end Sys2Proof.Laws
end

