-- ==== Sys2Proof/Laws/FrameRounds.lean ====
section
/-!
SUPPORT. What the peer view, the line engine, layover and the completion leave unchanged: one lemma for each operation,
naming every block, and every field of the port, that it does not touch.
-/

namespace Sys2Proof.Laws

open Sys2Proof.Machine

@[simp] theorem absorb_frame (s : State) (r : RoundRecord) :
    (s.absorb r).straps = s.straps ∧ (s.absorb r).pins = s.pins ∧ (s.absorb r).line = s.line ∧
    (s.absorb r).scan = s.scan ∧ (s.absorb r).pole = s.pole ∧ (s.absorb r).budget = s.budget ∧
    (s.absorb r).ceil = s.ceil ∧ (s.absorb r).arb = s.arb ∧ (s.absorb r).feed = s.feed ∧
    (s.absorb r).slate = s.slate ∧ (s.absorb r).wakeDet = s.wakeDet ∧ (s.absorb r).pending = s.pending ∧
    (s.absorb r).port.cd = s.port.cd ∧ (s.absorb r).port.refused = s.port.refused ∧
    (s.absorb r).port.lineUp = s.port.lineUp ∧ (s.absorb r).port.locked = s.port.locked ∧
    (s.absorb r).port.intake = s.port.intake ∧ (s.absorb r).port.headLatched = s.port.headLatched ∧
    (s.absorb r).port.byteIdx = s.port.byteIdx ∧ (s.absorb r).port.source = s.port.source ∧
    (s.absorb r).port.snap = s.port.snap ∧ (s.absorb r).port.snapPtr = s.port.snapPtr ∧
    (s.absorb r).port.summaryLow = s.port.summaryLow ∧ (s.absorb r).port.dataOut = s.port.dataOut ∧
    (s.absorb r).port.demand = s.port.demand ∧ (s.absorb r).port.roleValue = s.port.roleValue ∧
    (s.absorb r).port.settings = s.port.settings := by
  simp only [State.absorb]
  simp

@[simp] theorem clearView_frame (s : State) :
    (s.clearView).straps = s.straps ∧ (s.clearView).pins = s.pins ∧ (s.clearView).scan = s.scan ∧
    (s.clearView).budget = s.budget ∧ (s.clearView).feed = s.feed ∧ (s.clearView).slate = s.slate ∧
    (s.clearView).wakeDet = s.wakeDet ∧ (s.clearView).port = s.port ∧
    (s.clearView).pending = s.pending := by
  simp only [State.clearView]
  simp

@[simp] theorem enterLimp_frame (s : State) :
    (s.enterLimp).straps = s.straps ∧ (s.enterLimp).pins = s.pins ∧ (s.enterLimp).line = s.line ∧
    (s.enterLimp).view = s.view ∧ (s.enterLimp).scan = s.scan ∧ (s.enterLimp).pole = s.pole ∧
    (s.enterLimp).slate = s.slate ∧ (s.enterLimp).wakeDet = s.wakeDet ∧ (s.enterLimp).pending = s.pending ∧
    (s.enterLimp).port.cd = s.port.cd ∧ (s.enterLimp).port.refused = s.port.refused ∧
    (s.enterLimp).port.lineUp = s.port.lineUp ∧ (s.enterLimp).port.locked = s.port.locked ∧
    (s.enterLimp).port.intake = s.port.intake ∧ (s.enterLimp).port.headLatched = s.port.headLatched ∧
    (s.enterLimp).port.byteIdx = s.port.byteIdx ∧ (s.enterLimp).port.source = s.port.source ∧
    (s.enterLimp).port.snap = s.port.snap ∧ (s.enterLimp).port.snapPtr = s.port.snapPtr ∧
    (s.enterLimp).port.summaryLow = s.port.summaryLow ∧ (s.enterLimp).port.dataOut = s.port.dataOut ∧
    (s.enterLimp).port.demand = s.port.demand ∧ (s.enterLimp).port.roleValue = s.port.roleValue ∧
    (s.enterLimp).port.settings = s.port.settings := by
  simp only [State.enterLimp]
  simp

@[simp] theorem enterLineDown_frame (s : State) (c v n : Nat) :
    (s.enterLineDown c v n).straps = s.straps ∧ (s.enterLineDown c v n).pins = s.pins ∧
    (s.enterLineDown c v n).scan = s.scan ∧ (s.enterLineDown c v n).slate = s.slate ∧
    (s.enterLineDown c v n).wakeDet = s.wakeDet ∧ (s.enterLineDown c v n).pending = s.pending ∧
    (s.enterLineDown c v n).port.cd = s.port.cd ∧ (s.enterLineDown c v n).port.refused = s.port.refused ∧
    (s.enterLineDown c v n).port.locked = s.port.locked ∧
    (s.enterLineDown c v n).port.intake = s.port.intake ∧
    (s.enterLineDown c v n).port.headLatched = s.port.headLatched ∧
    (s.enterLineDown c v n).port.byteIdx = s.port.byteIdx ∧
    (s.enterLineDown c v n).port.source = s.port.source ∧ (s.enterLineDown c v n).port.snap = s.port.snap ∧
    (s.enterLineDown c v n).port.snapPtr = s.port.snapPtr ∧
    (s.enterLineDown c v n).port.summaryLow = s.port.summaryLow ∧
    (s.enterLineDown c v n).port.dataOut = s.port.dataOut ∧
    (s.enterLineDown c v n).port.demand = s.port.demand ∧
    (s.enterLineDown c v n).port.roleValue = s.port.roleValue ∧
    (s.enterLineDown c v n).port.settings = s.port.settings := by
  simp only [State.enterLineDown]
  simp

@[simp] theorem lineFault_frame (s : State) (c n : Nat) :
    (s.lineFault c n).straps = s.straps ∧ (s.lineFault c n).pins = s.pins ∧
    (s.lineFault c n).scan = s.scan ∧ (s.lineFault c n).slate = s.slate ∧
    (s.lineFault c n).wakeDet = s.wakeDet ∧ (s.lineFault c n).pending = s.pending ∧
    (s.lineFault c n).port.cd = s.port.cd ∧ (s.lineFault c n).port.refused = s.port.refused ∧
    (s.lineFault c n).port.locked = s.port.locked ∧ (s.lineFault c n).port.intake = s.port.intake ∧
    (s.lineFault c n).port.headLatched = s.port.headLatched ∧
    (s.lineFault c n).port.byteIdx = s.port.byteIdx ∧ (s.lineFault c n).port.source = s.port.source ∧
    (s.lineFault c n).port.snap = s.port.snap ∧ (s.lineFault c n).port.snapPtr = s.port.snapPtr ∧
    (s.lineFault c n).port.summaryLow = s.port.summaryLow ∧
    (s.lineFault c n).port.dataOut = s.port.dataOut ∧ (s.lineFault c n).port.demand = s.port.demand ∧
    (s.lineFault c n).port.roleValue = s.port.roleValue ∧
    (s.lineFault c n).port.settings = s.port.settings := by
  simp only [State.lineFault]
  repeat' split
  all_goals simp

@[simp] theorem discard_frame (s : State) (n : Nat) :
    (s.discard n).straps = s.straps ∧ (s.discard n).pins = s.pins ∧ (s.discard n).scan = s.scan ∧
    (s.discard n).slate = s.slate ∧ (s.discard n).wakeDet = s.wakeDet ∧ (s.discard n).pending = s.pending ∧
    (s.discard n).port.cd = s.port.cd ∧ (s.discard n).port.refused = s.port.refused ∧
    (s.discard n).port.locked = s.port.locked ∧ (s.discard n).port.intake = s.port.intake ∧
    (s.discard n).port.headLatched = s.port.headLatched ∧ (s.discard n).port.byteIdx = s.port.byteIdx ∧
    (s.discard n).port.source = s.port.source ∧ (s.discard n).port.snap = s.port.snap ∧
    (s.discard n).port.snapPtr = s.port.snapPtr ∧ (s.discard n).port.summaryLow = s.port.summaryLow ∧
    (s.discard n).port.dataOut = s.port.dataOut ∧ (s.discard n).port.demand = s.port.demand ∧
    (s.discard n).port.roleValue = s.port.roleValue ∧ (s.discard n).port.settings = s.port.settings := by
  simp only [State.discard]
  repeat' split
  all_goals simp

@[simp] theorem enterClashed_frame (s : State) (k : Nat) :
    (s.enterClashed k).straps = s.straps ∧ (s.enterClashed k).pins = s.pins ∧
    (s.enterClashed k).view = s.view ∧ (s.enterClashed k).scan = s.scan ∧ (s.enterClashed k).pole = s.pole ∧
    (s.enterClashed k).slate = s.slate ∧ (s.enterClashed k).wakeDet = s.wakeDet ∧
    (s.enterClashed k).pending = s.pending ∧ (s.enterClashed k).port.cd = s.port.cd ∧
    (s.enterClashed k).port.refused = s.port.refused ∧ (s.enterClashed k).port.lineUp = s.port.lineUp ∧
    (s.enterClashed k).port.locked = s.port.locked ∧ (s.enterClashed k).port.intake = s.port.intake ∧
    (s.enterClashed k).port.headLatched = s.port.headLatched ∧
    (s.enterClashed k).port.byteIdx = s.port.byteIdx ∧ (s.enterClashed k).port.source = s.port.source ∧
    (s.enterClashed k).port.snap = s.port.snap ∧ (s.enterClashed k).port.snapPtr = s.port.snapPtr ∧
    (s.enterClashed k).port.summaryLow = s.port.summaryLow ∧
    (s.enterClashed k).port.dataOut = s.port.dataOut ∧ (s.enterClashed k).port.demand = s.port.demand ∧
    (s.enterClashed k).port.roleValue = s.port.roleValue ∧
    (s.enterClashed k).port.settings = s.port.settings := by
  simp only [State.enterClashed]
  simp

@[simp] theorem arbLatch_frame (s : State) :
    (s.arbLatch).straps = s.straps ∧ (s.arbLatch).pins = s.pins ∧ (s.arbLatch).line = s.line ∧
    (s.arbLatch).view = s.view ∧ (s.arbLatch).scan = s.scan ∧ (s.arbLatch).pole = s.pole ∧
    (s.arbLatch).budget = s.budget ∧ (s.arbLatch).ceil = s.ceil ∧ (s.arbLatch).feed = s.feed ∧
    (s.arbLatch).slate = s.slate ∧ (s.arbLatch).wakeDet = s.wakeDet ∧ (s.arbLatch).port = s.port ∧
    (s.arbLatch).pending = s.pending := by
  simp only [State.arbLatch]
  repeat' split
  all_goals simp

@[simp] theorem cutHoldDown_frame (s : State) :
    (s.cutHoldDown).straps = s.straps ∧ (s.cutHoldDown).pins = s.pins ∧ (s.cutHoldDown).line = s.line ∧
    (s.cutHoldDown).view = s.view ∧ (s.cutHoldDown).scan = s.scan ∧ (s.cutHoldDown).pole = s.pole ∧
    (s.cutHoldDown).ceil = s.ceil ∧ (s.cutHoldDown).arb = s.arb ∧ (s.cutHoldDown).feed = s.feed ∧
    (s.cutHoldDown).slate = s.slate ∧ (s.cutHoldDown).wakeDet = s.wakeDet ∧ (s.cutHoldDown).port = s.port ∧
    (s.cutHoldDown).pending = s.pending := by
  simp only [State.cutHoldDown]
  simp

@[simp] theorem limpAtStart_frame (s : State) :
    (s.limpAtStart).straps = s.straps ∧ (s.limpAtStart).pins = s.pins ∧ (s.limpAtStart).line = s.line ∧
    (s.limpAtStart).view = s.view ∧ (s.limpAtStart).scan = s.scan ∧ (s.limpAtStart).pole = s.pole ∧
    (s.limpAtStart).arb = s.arb ∧ (s.limpAtStart).slate = s.slate ∧ (s.limpAtStart).wakeDet = s.wakeDet ∧
    (s.limpAtStart).pending = s.pending ∧ (s.limpAtStart).port.cd = s.port.cd ∧
    (s.limpAtStart).port.refused = s.port.refused ∧ (s.limpAtStart).port.lineUp = s.port.lineUp ∧
    (s.limpAtStart).port.locked = s.port.locked ∧ (s.limpAtStart).port.intake = s.port.intake ∧
    (s.limpAtStart).port.headLatched = s.port.headLatched ∧ (s.limpAtStart).port.byteIdx = s.port.byteIdx ∧
    (s.limpAtStart).port.source = s.port.source ∧ (s.limpAtStart).port.snap = s.port.snap ∧
    (s.limpAtStart).port.snapPtr = s.port.snapPtr ∧ (s.limpAtStart).port.summaryLow = s.port.summaryLow ∧
    (s.limpAtStart).port.dataOut = s.port.dataOut ∧ (s.limpAtStart).port.demand = s.port.demand ∧
    (s.limpAtStart).port.roleValue = s.port.roleValue ∧
    (s.limpAtStart).port.settings = s.port.settings := by
  simp only [State.limpAtStart]
  repeat' split
  all_goals simp

@[simp] theorem startFrame_frame (s : State) :
    (s.startFrame).straps = s.straps ∧ (s.startFrame).pins = s.pins ∧ (s.startFrame).view = s.view ∧
    (s.startFrame).wakeDet = s.wakeDet ∧ (s.startFrame).pending = s.pending ∧
    (s.startFrame).port.cd = s.port.cd ∧ (s.startFrame).port.refused = s.port.refused ∧
    (s.startFrame).port.lineUp = s.port.lineUp ∧ (s.startFrame).port.locked = s.port.locked ∧
    (s.startFrame).port.intake = s.port.intake ∧ (s.startFrame).port.headLatched = s.port.headLatched ∧
    (s.startFrame).port.byteIdx = s.port.byteIdx ∧ (s.startFrame).port.source = s.port.source ∧
    (s.startFrame).port.snap = s.port.snap ∧ (s.startFrame).port.snapPtr = s.port.snapPtr ∧
    (s.startFrame).port.summaryLow = s.port.summaryLow ∧ (s.startFrame).port.dataOut = s.port.dataOut ∧
    (s.startFrame).port.demand = s.port.demand ∧ (s.startFrame).port.roleValue = s.port.roleValue ∧
    (s.startFrame).port.settings = s.port.settings := by
  simp only [State.startFrame]
  simp

@[simp] theorem pressDrive_frame (s : State) :
    (s.pressDrive).straps = s.straps ∧ (s.pressDrive).pins = s.pins ∧ (s.pressDrive).view = s.view ∧
    (s.pressDrive).scan = s.scan ∧ (s.pressDrive).pole = s.pole ∧ (s.pressDrive).budget = s.budget ∧
    (s.pressDrive).ceil = s.ceil ∧ (s.pressDrive).arb = s.arb ∧ (s.pressDrive).feed = s.feed ∧
    (s.pressDrive).slate = s.slate ∧ (s.pressDrive).wakeDet = s.wakeDet ∧ (s.pressDrive).port = s.port ∧
    (s.pressDrive).pending = s.pending := by
  simp only [State.pressDrive]
  repeat' split
  all_goals simp

@[simp] theorem slotEnd_frame (s : State) (k : Nat) :
    (s.slotEnd k).straps = s.straps ∧ (s.slotEnd k).pins = s.pins ∧ (s.slotEnd k).view = s.view ∧
    (s.slotEnd k).scan = s.scan ∧ (s.slotEnd k).pole = s.pole ∧ (s.slotEnd k).slate = s.slate ∧
    (s.slotEnd k).wakeDet = s.wakeDet ∧ (s.slotEnd k).pending = s.pending ∧
    (s.slotEnd k).port.cd = s.port.cd ∧ (s.slotEnd k).port.refused = s.port.refused ∧
    (s.slotEnd k).port.lineUp = s.port.lineUp ∧ (s.slotEnd k).port.locked = s.port.locked ∧
    (s.slotEnd k).port.intake = s.port.intake ∧ (s.slotEnd k).port.headLatched = s.port.headLatched ∧
    (s.slotEnd k).port.byteIdx = s.port.byteIdx ∧ (s.slotEnd k).port.source = s.port.source ∧
    (s.slotEnd k).port.snap = s.port.snap ∧ (s.slotEnd k).port.snapPtr = s.port.snapPtr ∧
    (s.slotEnd k).port.summaryLow = s.port.summaryLow ∧ (s.slotEnd k).port.dataOut = s.port.dataOut ∧
    (s.slotEnd k).port.demand = s.port.demand ∧ (s.slotEnd k).port.roleValue = s.port.roleValue ∧
    (s.slotEnd k).port.settings = s.port.settings := by
  simp only [State.slotEnd]
  repeat' split
  all_goals simp

@[simp] theorem assertB_frame (s : State) :
    (s.assertB).straps = s.straps ∧ (s.assertB).pins = s.pins ∧ (s.assertB).view = s.view ∧
    (s.assertB).scan = s.scan ∧ (s.assertB).pole = s.pole ∧ (s.assertB).budget = s.budget ∧
    (s.assertB).ceil = s.ceil ∧ (s.assertB).arb = s.arb ∧ (s.assertB).feed = s.feed ∧
    (s.assertB).slate = s.slate ∧ (s.assertB).wakeDet = s.wakeDet ∧ (s.assertB).port = s.port ∧
    (s.assertB).pending = s.pending := by
  simp only [State.assertB]
  simp

@[simp] theorem stopTest_frame (s : State) :
    (s.stopTest).straps = s.straps ∧ (s.stopTest).pins = s.pins ∧ (s.stopTest).view = s.view ∧
    (s.stopTest).scan = s.scan ∧ (s.stopTest).pole = s.pole ∧ (s.stopTest).budget = s.budget ∧
    (s.stopTest).ceil = s.ceil ∧ (s.stopTest).arb = s.arb ∧ (s.stopTest).feed = s.feed ∧
    (s.stopTest).slate = s.slate ∧ (s.stopTest).wakeDet = s.wakeDet ∧ (s.stopTest).port = s.port ∧
    (s.stopTest).pending = s.pending := by
  simp only [State.stopTest]
  repeat' split
  all_goals simp

@[simp] theorem slotAdvance_frame (s : State) :
    (s.slotAdvance).straps = s.straps ∧ (s.slotAdvance).pins = s.pins ∧ (s.slotAdvance).view = s.view ∧
    (s.slotAdvance).scan = s.scan ∧ (s.slotAdvance).pole = s.pole ∧ (s.slotAdvance).budget = s.budget ∧
    (s.slotAdvance).ceil = s.ceil ∧ (s.slotAdvance).arb = s.arb ∧ (s.slotAdvance).feed = s.feed ∧
    (s.slotAdvance).slate = s.slate ∧ (s.slotAdvance).wakeDet = s.wakeDet ∧ (s.slotAdvance).port = s.port ∧
    (s.slotAdvance).pending = s.pending := by
  simp only [State.slotAdvance]
  repeat' split
  all_goals simp

@[simp] theorem startTest_frame (s : State) :
    (s.startTest).straps = s.straps ∧ (s.startTest).pins = s.pins ∧ (s.startTest).view = s.view ∧
    (s.startTest).scan = s.scan ∧ (s.startTest).pole = s.pole ∧ (s.startTest).budget = s.budget ∧
    (s.startTest).ceil = s.ceil ∧ (s.startTest).arb = s.arb ∧ (s.startTest).feed = s.feed ∧
    (s.startTest).slate = s.slate ∧ (s.startTest).wakeDet = s.wakeDet ∧ (s.startTest).port = s.port ∧
    (s.startTest).pending = s.pending := by
  simp only [State.startTest]
  repeat' split
  all_goals simp

@[simp] theorem endSample_frame (s : State) :
    (s.endSample).straps = s.straps ∧ (s.endSample).pins = s.pins ∧ (s.endSample).view = s.view ∧
    (s.endSample).scan = s.scan ∧ (s.endSample).pole = s.pole ∧ (s.endSample).slate = s.slate ∧
    (s.endSample).wakeDet = s.wakeDet ∧ (s.endSample).pending = s.pending ∧
    (s.endSample).port.cd = s.port.cd ∧ (s.endSample).port.refused = s.port.refused ∧
    (s.endSample).port.lineUp = s.port.lineUp ∧ (s.endSample).port.locked = s.port.locked ∧
    (s.endSample).port.intake = s.port.intake ∧ (s.endSample).port.headLatched = s.port.headLatched ∧
    (s.endSample).port.byteIdx = s.port.byteIdx ∧ (s.endSample).port.source = s.port.source ∧
    (s.endSample).port.snap = s.port.snap ∧ (s.endSample).port.snapPtr = s.port.snapPtr ∧
    (s.endSample).port.summaryLow = s.port.summaryLow ∧ (s.endSample).port.dataOut = s.port.dataOut ∧
    (s.endSample).port.demand = s.port.demand ∧ (s.endSample).port.roleValue = s.port.roleValue ∧
    (s.endSample).port.settings = s.port.settings := by
  simp only [State.endSample]
  repeat' split
  all_goals simp

@[simp] theorem edgeCounts_frame (s : State) :
    (s.edgeCounts).straps = s.straps ∧ (s.edgeCounts).pins = s.pins ∧ (s.edgeCounts).view = s.view ∧
    (s.edgeCounts).scan = s.scan ∧ (s.edgeCounts).pole = s.pole ∧ (s.edgeCounts).budget = s.budget ∧
    (s.edgeCounts).ceil = s.ceil ∧ (s.edgeCounts).arb = s.arb ∧ (s.edgeCounts).feed = s.feed ∧
    (s.edgeCounts).slate = s.slate ∧ (s.edgeCounts).wakeDet = s.wakeDet ∧ (s.edgeCounts).port = s.port ∧
    (s.edgeCounts).pending = s.pending := by
  simp only [State.edgeCounts]
  simp

@[simp] theorem edgeDrives_frame (s : State) :
    (s.edgeDrives).straps = s.straps ∧ (s.edgeDrives).pins = s.pins ∧ (s.edgeDrives).view = s.view ∧
    (s.edgeDrives).scan = s.scan ∧ (s.edgeDrives).pole = s.pole ∧ (s.edgeDrives).budget = s.budget ∧
    (s.edgeDrives).ceil = s.ceil ∧ (s.edgeDrives).arb = s.arb ∧ (s.edgeDrives).feed = s.feed ∧
    (s.edgeDrives).slate = s.slate ∧ (s.edgeDrives).wakeDet = s.wakeDet ∧ (s.edgeDrives).port = s.port ∧
    (s.edgeDrives).pending = s.pending := by
  simp only [State.edgeDrives]
  simp

@[simp] theorem fallingEdge_frame (s : State) :
    (s.fallingEdge).straps = s.straps ∧ (s.fallingEdge).pins = s.pins ∧ (s.fallingEdge).scan = s.scan ∧
    (s.fallingEdge).slate = s.slate ∧ (s.fallingEdge).wakeDet = s.wakeDet ∧
    (s.fallingEdge).pending = s.pending ∧ (s.fallingEdge).port.cd = s.port.cd ∧
    (s.fallingEdge).port.refused = s.port.refused ∧ (s.fallingEdge).port.locked = s.port.locked ∧
    (s.fallingEdge).port.intake = s.port.intake ∧ (s.fallingEdge).port.headLatched = s.port.headLatched ∧
    (s.fallingEdge).port.byteIdx = s.port.byteIdx ∧ (s.fallingEdge).port.source = s.port.source ∧
    (s.fallingEdge).port.snap = s.port.snap ∧ (s.fallingEdge).port.snapPtr = s.port.snapPtr ∧
    (s.fallingEdge).port.summaryLow = s.port.summaryLow ∧ (s.fallingEdge).port.dataOut = s.port.dataOut ∧
    (s.fallingEdge).port.demand = s.port.demand ∧ (s.fallingEdge).port.roleValue = s.port.roleValue ∧
    (s.fallingEdge).port.settings = s.port.settings := by
  simp only [State.fallingEdge]
  repeat' split
  all_goals simp

@[simp] theorem lowHalfEnd_frame (s : State) :
    (s.lowHalfEnd).straps = s.straps ∧ (s.lowHalfEnd).pins = s.pins ∧ (s.lowHalfEnd).scan = s.scan ∧
    (s.lowHalfEnd).slate = s.slate ∧ (s.lowHalfEnd).wakeDet = s.wakeDet ∧
    (s.lowHalfEnd).pending = s.pending ∧ (s.lowHalfEnd).port.cd = s.port.cd ∧
    (s.lowHalfEnd).port.refused = s.port.refused ∧ (s.lowHalfEnd).port.locked = s.port.locked ∧
    (s.lowHalfEnd).port.intake = s.port.intake ∧ (s.lowHalfEnd).port.headLatched = s.port.headLatched ∧
    (s.lowHalfEnd).port.byteIdx = s.port.byteIdx ∧ (s.lowHalfEnd).port.source = s.port.source ∧
    (s.lowHalfEnd).port.snap = s.port.snap ∧ (s.lowHalfEnd).port.snapPtr = s.port.snapPtr ∧
    (s.lowHalfEnd).port.summaryLow = s.port.summaryLow ∧ (s.lowHalfEnd).port.dataOut = s.port.dataOut ∧
    (s.lowHalfEnd).port.demand = s.port.demand ∧ (s.lowHalfEnd).port.roleValue = s.port.roleValue ∧
    (s.lowHalfEnd).port.settings = s.port.settings := by
  simp only [State.lowHalfEnd]
  repeat' split
  all_goals simp

@[simp] theorem wake_frame (s : State) (b : Bool) :
    (s.wake b).straps = s.straps ∧ (s.wake b).pins = s.pins ∧ (s.wake b).view = s.view ∧
    (s.wake b).pole = s.pole ∧ (s.wake b).budget = s.budget ∧ (s.wake b).arb = s.arb ∧
    (s.wake b).feed = s.feed ∧ (s.wake b).pending = s.pending ∧ (s.wake b).port.cd = s.port.cd ∧
    (s.wake b).port.refused = s.port.refused ∧ (s.wake b).port.locked = s.port.locked ∧
    (s.wake b).port.intake = s.port.intake ∧ (s.wake b).port.headLatched = s.port.headLatched ∧
    (s.wake b).port.byteIdx = s.port.byteIdx ∧ (s.wake b).port.source = s.port.source ∧
    (s.wake b).port.snap = s.port.snap ∧ (s.wake b).port.snapPtr = s.port.snapPtr ∧
    (s.wake b).port.summaryLow = s.port.summaryLow ∧ (s.wake b).port.dataOut = s.port.dataOut ∧
    (s.wake b).port.demand = s.port.demand ∧ (s.wake b).port.roleValue = s.port.roleValue ∧
    (s.wake b).port.settings = s.port.settings := by
  simp only [State.wake]
  simp

@[simp] theorem sleepBudget_frame (s : State) :
    (s.sleepBudget).straps = s.straps ∧ (s.sleepBudget).pins = s.pins ∧ (s.sleepBudget).line = s.line ∧
    (s.sleepBudget).view = s.view ∧ (s.sleepBudget).scan = s.scan ∧ (s.sleepBudget).pole = s.pole ∧
    (s.sleepBudget).ceil = s.ceil ∧ (s.sleepBudget).arb = s.arb ∧ (s.sleepBudget).feed = s.feed ∧
    (s.sleepBudget).slate = s.slate ∧ (s.sleepBudget).wakeDet = s.wakeDet ∧
    (s.sleepBudget).pending = s.pending ∧ (s.sleepBudget).port.cd = s.port.cd ∧
    (s.sleepBudget).port.refused = s.port.refused ∧ (s.sleepBudget).port.lineUp = s.port.lineUp ∧
    (s.sleepBudget).port.locked = s.port.locked ∧ (s.sleepBudget).port.intake = s.port.intake ∧
    (s.sleepBudget).port.headLatched = s.port.headLatched ∧ (s.sleepBudget).port.byteIdx = s.port.byteIdx ∧
    (s.sleepBudget).port.source = s.port.source ∧ (s.sleepBudget).port.snap = s.port.snap ∧
    (s.sleepBudget).port.snapPtr = s.port.snapPtr ∧ (s.sleepBudget).port.summaryLow = s.port.summaryLow ∧
    (s.sleepBudget).port.dataOut = s.port.dataOut ∧ (s.sleepBudget).port.demand = s.port.demand ∧
    (s.sleepBudget).port.roleValue = s.port.roleValue ∧
    (s.sleepBudget).port.settings = s.port.settings := by
  simp only [State.sleepBudget]
  repeat' split
  all_goals simp

@[simp] theorem sleepCeil_frame (s : State) :
    (s.sleepCeil).straps = s.straps ∧ (s.sleepCeil).pins = s.pins ∧ (s.sleepCeil).line = s.line ∧
    (s.sleepCeil).view = s.view ∧ (s.sleepCeil).scan = s.scan ∧ (s.sleepCeil).pole = s.pole ∧
    (s.sleepCeil).budget = s.budget ∧ (s.sleepCeil).arb = s.arb ∧ (s.sleepCeil).feed = s.feed ∧
    (s.sleepCeil).slate = s.slate ∧ (s.sleepCeil).wakeDet = s.wakeDet ∧ (s.sleepCeil).pending = s.pending ∧
    (s.sleepCeil).port.cd = s.port.cd ∧ (s.sleepCeil).port.refused = s.port.refused ∧
    (s.sleepCeil).port.lineUp = s.port.lineUp ∧ (s.sleepCeil).port.locked = s.port.locked ∧
    (s.sleepCeil).port.intake = s.port.intake ∧ (s.sleepCeil).port.headLatched = s.port.headLatched ∧
    (s.sleepCeil).port.byteIdx = s.port.byteIdx ∧ (s.sleepCeil).port.source = s.port.source ∧
    (s.sleepCeil).port.snap = s.port.snap ∧ (s.sleepCeil).port.snapPtr = s.port.snapPtr ∧
    (s.sleepCeil).port.summaryLow = s.port.summaryLow ∧ (s.sleepCeil).port.dataOut = s.port.dataOut ∧
    (s.sleepCeil).port.demand = s.port.demand ∧ (s.sleepCeil).port.roleValue = s.port.roleValue ∧
    (s.sleepCeil).port.settings = s.port.settings := by
  simp only [State.sleepCeil]
  repeat' split
  all_goals simp

@[simp] theorem armWake_frame (s : State) :
    (s.armWake).straps = s.straps ∧ (s.armWake).pins = s.pins ∧ (s.armWake).line = s.line ∧
    (s.armWake).view = s.view ∧ (s.armWake).scan = s.scan ∧ (s.armWake).pole = s.pole ∧
    (s.armWake).budget = s.budget ∧ (s.armWake).ceil = s.ceil ∧ (s.armWake).arb = s.arb ∧
    (s.armWake).feed = s.feed ∧ (s.armWake).slate = s.slate ∧ (s.armWake).port = s.port ∧
    (s.armWake).pending = s.pending := by
  simp only [State.armWake]
  simp

@[simp] theorem sleepPole_frame (s : State) :
    (s.sleepPole).straps = s.straps ∧ (s.sleepPole).pins = s.pins ∧ (s.sleepPole).line = s.line ∧
    (s.sleepPole).view = s.view ∧ (s.sleepPole).scan = s.scan ∧ (s.sleepPole).budget = s.budget ∧
    (s.sleepPole).ceil = s.ceil ∧ (s.sleepPole).arb = s.arb ∧ (s.sleepPole).feed = s.feed ∧
    (s.sleepPole).slate = s.slate ∧ (s.sleepPole).wakeDet = s.wakeDet ∧ (s.sleepPole).port = s.port ∧
    (s.sleepPole).pending = s.pending := by
  simp only [State.sleepPole]
  repeat' split
  all_goals simp

@[simp] theorem fallAsleep_frame (s : State) :
    (s.fallAsleep).straps = s.straps ∧ (s.fallAsleep).pins = s.pins ∧ (s.fallAsleep).pending = s.pending ∧
    (s.fallAsleep).port.cd = s.port.cd ∧ (s.fallAsleep).port.refused = s.port.refused ∧
    (s.fallAsleep).port.locked = s.port.locked ∧ (s.fallAsleep).port.intake = s.port.intake ∧
    (s.fallAsleep).port.headLatched = s.port.headLatched ∧ (s.fallAsleep).port.byteIdx = s.port.byteIdx ∧
    (s.fallAsleep).port.source = s.port.source ∧ (s.fallAsleep).port.snap = s.port.snap ∧
    (s.fallAsleep).port.snapPtr = s.port.snapPtr ∧ (s.fallAsleep).port.summaryLow = s.port.summaryLow ∧
    (s.fallAsleep).port.dataOut = s.port.dataOut ∧ (s.fallAsleep).port.demand = s.port.demand ∧
    (s.fallAsleep).port.roleValue = s.port.roleValue ∧ (s.fallAsleep).port.settings = s.port.settings := by
  simp only [State.fallAsleep]
  simp

@[simp] theorem enterAsleep_frame (s : State) :
    (s.enterAsleep).straps = s.straps ∧ (s.enterAsleep).pins = s.pins ∧
    (s.enterAsleep).pending = s.pending ∧ (s.enterAsleep).port.cd = s.port.cd ∧
    (s.enterAsleep).port.refused = s.port.refused ∧ (s.enterAsleep).port.locked = s.port.locked ∧
    (s.enterAsleep).port.intake = s.port.intake ∧ (s.enterAsleep).port.headLatched = s.port.headLatched ∧
    (s.enterAsleep).port.byteIdx = s.port.byteIdx ∧ (s.enterAsleep).port.source = s.port.source ∧
    (s.enterAsleep).port.snap = s.port.snap ∧ (s.enterAsleep).port.snapPtr = s.port.snapPtr ∧
    (s.enterAsleep).port.summaryLow = s.port.summaryLow ∧ (s.enterAsleep).port.dataOut = s.port.dataOut ∧
    (s.enterAsleep).port.demand = s.port.demand ∧ (s.enterAsleep).port.roleValue = s.port.roleValue ∧
    (s.enterAsleep).port.settings = s.port.settings := by
  simp only [State.enterAsleep]
  repeat' split
  all_goals simp

@[simp] theorem ownCause_frame (s : State) :
    (s.ownCause).straps = s.straps ∧ (s.ownCause).pins = s.pins ∧ (s.ownCause).view = s.view ∧
    (s.ownCause).pole = s.pole ∧ (s.ownCause).budget = s.budget ∧ (s.ownCause).arb = s.arb ∧
    (s.ownCause).feed = s.feed ∧ (s.ownCause).pending = s.pending ∧ (s.ownCause).port.cd = s.port.cd ∧
    (s.ownCause).port.refused = s.port.refused ∧ (s.ownCause).port.locked = s.port.locked ∧
    (s.ownCause).port.intake = s.port.intake ∧ (s.ownCause).port.headLatched = s.port.headLatched ∧
    (s.ownCause).port.byteIdx = s.port.byteIdx ∧ (s.ownCause).port.source = s.port.source ∧
    (s.ownCause).port.snap = s.port.snap ∧ (s.ownCause).port.snapPtr = s.port.snapPtr ∧
    (s.ownCause).port.summaryLow = s.port.summaryLow ∧ (s.ownCause).port.dataOut = s.port.dataOut ∧
    (s.ownCause).port.demand = s.port.demand ∧ (s.ownCause).port.roleValue = s.port.roleValue ∧
    (s.ownCause).port.settings = s.port.settings := by
  simp only [State.ownCause]
  repeat' split
  all_goals simp

@[simp] theorem slowDetect_frame (s : State) :
    (s.slowDetect).straps = s.straps ∧ (s.slowDetect).pins = s.pins ∧ (s.slowDetect).view = s.view ∧
    (s.slowDetect).pole = s.pole ∧ (s.slowDetect).budget = s.budget ∧ (s.slowDetect).arb = s.arb ∧
    (s.slowDetect).feed = s.feed ∧ (s.slowDetect).pending = s.pending ∧ (s.slowDetect).port.cd = s.port.cd ∧
    (s.slowDetect).port.refused = s.port.refused ∧ (s.slowDetect).port.locked = s.port.locked ∧
    (s.slowDetect).port.intake = s.port.intake ∧ (s.slowDetect).port.headLatched = s.port.headLatched ∧
    (s.slowDetect).port.byteIdx = s.port.byteIdx ∧ (s.slowDetect).port.source = s.port.source ∧
    (s.slowDetect).port.snap = s.port.snap ∧ (s.slowDetect).port.snapPtr = s.port.snapPtr ∧
    (s.slowDetect).port.summaryLow = s.port.summaryLow ∧ (s.slowDetect).port.dataOut = s.port.dataOut ∧
    (s.slowDetect).port.demand = s.port.demand ∧ (s.slowDetect).port.roleValue = s.port.roleValue ∧
    (s.slowDetect).port.settings = s.port.settings := by
  simp only [State.slowDetect]
  repeat' split
  all_goals simp

@[simp] theorem resetPole_frame (s : State) :
    (s.resetPole).straps = s.straps ∧ (s.resetPole).pins = s.pins ∧ (s.resetPole).line = s.line ∧
    (s.resetPole).view = s.view ∧ (s.resetPole).scan = s.scan ∧ (s.resetPole).budget = s.budget ∧
    (s.resetPole).ceil = s.ceil ∧ (s.resetPole).arb = s.arb ∧ (s.resetPole).feed = s.feed ∧
    (s.resetPole).slate = s.slate ∧ (s.resetPole).wakeDet = s.wakeDet ∧ (s.resetPole).port = s.port ∧
    (s.resetPole).pending = s.pending := by
  simp only [State.resetPole]
  simp

@[simp] theorem resetAwake_frame (s : State) :
    (s.resetAwake).straps = s.straps ∧ (s.resetAwake).pins = s.pins ∧ (s.resetAwake).scan = s.scan ∧
    (s.resetAwake).wakeDet = s.wakeDet ∧ (s.resetAwake).pending = s.pending ∧
    (s.resetAwake).port.locked = s.port.locked ∧ (s.resetAwake).port.dataOut = s.port.dataOut ∧
    (s.resetAwake).port.demand = s.port.demand ∧ (s.resetAwake).port.roleValue = s.port.roleValue ∧
    (s.resetAwake).port.settings = s.port.settings := by
  simp [State.resetAwake, Port.stationReset]

@[simp] theorem stationReset_frame (s : State) :
    (s.stationReset).straps = s.straps ∧ (s.stationReset).pins = s.pins ∧
    (s.stationReset).pending = s.pending ∧ (s.stationReset).port.locked = s.port.locked ∧
    (s.stationReset).port.dataOut = s.port.dataOut ∧ (s.stationReset).port.demand = s.port.demand ∧
    (s.stationReset).port.roleValue = s.port.roleValue ∧
    (s.stationReset).port.settings = s.port.settings := by
  simp only [State.stationReset]
  simp

@[simp] theorem scanStart_frame (s : State) :
    (s.scanStart).straps = s.straps ∧ (s.scanStart).pins = s.pins ∧ (s.scanStart).line = s.line ∧
    (s.scanStart).view = s.view ∧ (s.scanStart).pole = s.pole ∧ (s.scanStart).budget = s.budget ∧
    (s.scanStart).ceil = s.ceil ∧ (s.scanStart).arb = s.arb ∧ (s.scanStart).feed = s.feed ∧
    (s.scanStart).slate = s.slate ∧ (s.scanStart).wakeDet = s.wakeDet ∧ (s.scanStart).port = s.port ∧
    (s.scanStart).pending = s.pending := by
  simp only [State.scanStart]
  repeat' split
  all_goals simp

@[simp] theorem layoverFlag_frame (s : State) (r : RoundRecord) :
    (s.layoverFlag r).straps = s.straps ∧ (s.layoverFlag r).pins = s.pins ∧
    (s.layoverFlag r).view = s.view ∧ (s.layoverFlag r).scan = s.scan ∧ (s.layoverFlag r).pole = s.pole ∧
    (s.layoverFlag r).budget = s.budget ∧ (s.layoverFlag r).ceil = s.ceil ∧ (s.layoverFlag r).arb = s.arb ∧
    (s.layoverFlag r).feed = s.feed ∧ (s.layoverFlag r).slate = s.slate ∧
    (s.layoverFlag r).wakeDet = s.wakeDet ∧ (s.layoverFlag r).port = s.port ∧
    (s.layoverFlag r).pending = s.pending := by
  simp only [State.layoverFlag]
  simp

@[simp] theorem layoverStep_frame (s : State) (r : RoundRecord) :
    (s.layoverStep r).straps = s.straps ∧ (s.layoverStep r).pins = s.pins ∧
    (s.layoverStep r).pending = s.pending ∧ (s.layoverStep r).port.cd = s.port.cd ∧
    (s.layoverStep r).port.refused = s.port.refused ∧ (s.layoverStep r).port.locked = s.port.locked ∧
    (s.layoverStep r).port.intake = s.port.intake ∧
    (s.layoverStep r).port.headLatched = s.port.headLatched ∧
    (s.layoverStep r).port.byteIdx = s.port.byteIdx ∧ (s.layoverStep r).port.source = s.port.source ∧
    (s.layoverStep r).port.snap = s.port.snap ∧ (s.layoverStep r).port.snapPtr = s.port.snapPtr ∧
    (s.layoverStep r).port.summaryLow = s.port.summaryLow ∧
    (s.layoverStep r).port.dataOut = s.port.dataOut ∧ (s.layoverStep r).port.demand = s.port.demand ∧
    (s.layoverStep r).port.roleValue = s.port.roleValue ∧
    (s.layoverStep r).port.settings = s.port.settings := by
  simp only [State.layoverStep]
  repeat' split
  all_goals simp

@[simp] theorem evalUpdate_frame (s : State) (r : RoundRecord) :
    (s.evalUpdate r).straps = s.straps ∧ (s.evalUpdate r).pins = s.pins ∧ (s.evalUpdate r).scan = s.scan ∧
    (s.evalUpdate r).pole = s.pole ∧ (s.evalUpdate r).ceil = s.ceil ∧ (s.evalUpdate r).arb = s.arb ∧
    (s.evalUpdate r).feed = s.feed ∧ (s.evalUpdate r).slate = s.slate ∧
    (s.evalUpdate r).wakeDet = s.wakeDet ∧ (s.evalUpdate r).pending = s.pending ∧
    (s.evalUpdate r).port.cd = s.port.cd ∧ (s.evalUpdate r).port.refused = s.port.refused ∧
    (s.evalUpdate r).port.lineUp = s.port.lineUp ∧ (s.evalUpdate r).port.locked = s.port.locked ∧
    (s.evalUpdate r).port.intake = s.port.intake ∧ (s.evalUpdate r).port.headLatched = s.port.headLatched ∧
    (s.evalUpdate r).port.byteIdx = s.port.byteIdx ∧ (s.evalUpdate r).port.source = s.port.source ∧
    (s.evalUpdate r).port.snap = s.port.snap ∧ (s.evalUpdate r).port.snapPtr = s.port.snapPtr ∧
    (s.evalUpdate r).port.summaryLow = s.port.summaryLow ∧ (s.evalUpdate r).port.dataOut = s.port.dataOut ∧
    (s.evalUpdate r).port.demand = s.port.demand ∧ (s.evalUpdate r).port.roleValue = s.port.roleValue ∧
    (s.evalUpdate r).port.settings = s.port.settings := by
  simp only [State.evalUpdate]
  simp

@[simp] theorem actUpdate_frame (s : State) (r : RoundRecord) :
    (s.actUpdate r).straps = s.straps ∧ (s.actUpdate r).pins = s.pins ∧ (s.actUpdate r).line = s.line ∧
    (s.actUpdate r).view = s.view ∧ (s.actUpdate r).scan = s.scan ∧ (s.actUpdate r).budget = s.budget ∧
    (s.actUpdate r).wakeDet = s.wakeDet ∧ (s.actUpdate r).pending = s.pending ∧
    (s.actUpdate r).port.cd = s.port.cd ∧ (s.actUpdate r).port.refused = s.port.refused ∧
    (s.actUpdate r).port.lineUp = s.port.lineUp ∧ (s.actUpdate r).port.locked = s.port.locked ∧
    (s.actUpdate r).port.intake = s.port.intake ∧ (s.actUpdate r).port.headLatched = s.port.headLatched ∧
    (s.actUpdate r).port.byteIdx = s.port.byteIdx ∧ (s.actUpdate r).port.source = s.port.source ∧
    (s.actUpdate r).port.snap = s.port.snap ∧ (s.actUpdate r).port.snapPtr = s.port.snapPtr ∧
    (s.actUpdate r).port.summaryLow = s.port.summaryLow ∧ (s.actUpdate r).port.dataOut = s.port.dataOut ∧
    (s.actUpdate r).port.demand = s.port.demand ∧ (s.actUpdate r).port.roleValue = s.port.roleValue ∧
    (s.actUpdate r).port.settings = s.port.settings := by
  simp only [State.actUpdate]
  simp

@[simp] theorem viewUpdate_frame (s : State) (r : RoundRecord) :
    (s.viewUpdate r).straps = s.straps ∧ (s.viewUpdate r).pins = s.pins ∧
    (s.viewUpdate r).pending = s.pending ∧ (s.viewUpdate r).port.cd = s.port.cd ∧
    (s.viewUpdate r).port.refused = s.port.refused ∧ (s.viewUpdate r).port.locked = s.port.locked ∧
    (s.viewUpdate r).port.intake = s.port.intake ∧ (s.viewUpdate r).port.headLatched = s.port.headLatched ∧
    (s.viewUpdate r).port.byteIdx = s.port.byteIdx ∧ (s.viewUpdate r).port.source = s.port.source ∧
    (s.viewUpdate r).port.snap = s.port.snap ∧ (s.viewUpdate r).port.snapPtr = s.port.snapPtr ∧
    (s.viewUpdate r).port.summaryLow = s.port.summaryLow ∧ (s.viewUpdate r).port.dataOut = s.port.dataOut ∧
    (s.viewUpdate r).port.demand = s.port.demand ∧ (s.viewUpdate r).port.roleValue = s.port.roleValue ∧
    (s.viewUpdate r).port.settings = s.port.settings := by
  simp only [State.viewUpdate]
  simp

@[simp] theorem lineComplete_frame (s : State) (m : Mode) :
    (s.lineComplete m).straps = s.straps ∧ (s.lineComplete m).pins = s.pins ∧
    (s.lineComplete m).view = s.view ∧ (s.lineComplete m).scan = s.scan ∧ (s.lineComplete m).pole = s.pole ∧
    (s.lineComplete m).ceil = s.ceil ∧ (s.lineComplete m).arb = s.arb ∧ (s.lineComplete m).feed = s.feed ∧
    (s.lineComplete m).slate = s.slate ∧ (s.lineComplete m).wakeDet = s.wakeDet ∧
    (s.lineComplete m).pending = s.pending ∧ (s.lineComplete m).port.cd = s.port.cd ∧
    (s.lineComplete m).port.refused = s.port.refused ∧ (s.lineComplete m).port.locked = s.port.locked ∧
    (s.lineComplete m).port.intake = s.port.intake ∧
    (s.lineComplete m).port.headLatched = s.port.headLatched ∧
    (s.lineComplete m).port.byteIdx = s.port.byteIdx ∧ (s.lineComplete m).port.source = s.port.source ∧
    (s.lineComplete m).port.snap = s.port.snap ∧ (s.lineComplete m).port.snapPtr = s.port.snapPtr ∧
    (s.lineComplete m).port.summaryLow = s.port.summaryLow ∧
    (s.lineComplete m).port.dataOut = s.port.dataOut ∧ (s.lineComplete m).port.demand = s.port.demand ∧
    (s.lineComplete m).port.roleValue = s.port.roleValue ∧
    (s.lineComplete m).port.settings = s.port.settings := by
  simp only [State.lineComplete]
  repeat' split
  all_goals simp

@[simp] theorem complete_frame (s : State) (m : Mode) :
    (s.complete m).straps = s.straps ∧ (s.complete m).pins = s.pins ∧ (s.complete m).pending = s.pending ∧
    (s.complete m).port.cd = s.port.cd ∧ (s.complete m).port.refused = s.port.refused ∧
    (s.complete m).port.locked = s.port.locked ∧ (s.complete m).port.intake = s.port.intake ∧
    (s.complete m).port.headLatched = s.port.headLatched ∧ (s.complete m).port.byteIdx = s.port.byteIdx ∧
    (s.complete m).port.source = s.port.source ∧ (s.complete m).port.snap = s.port.snap ∧
    (s.complete m).port.snapPtr = s.port.snapPtr ∧ (s.complete m).port.summaryLow = s.port.summaryLow ∧
    (s.complete m).port.dataOut = s.port.dataOut ∧ (s.complete m).port.demand = s.port.demand ∧
    (s.complete m).port.roleValue = s.port.roleValue ∧ (s.complete m).port.settings = s.port.settings := by
  simp only [State.complete]
  simp

@[simp] theorem countLow_frame (s : State) :
    (s.countLow).straps = s.straps ∧ (s.countLow).pins = s.pins ∧ (s.countLow).wakeDet = s.wakeDet ∧
    (s.countLow).pending = s.pending ∧ (s.countLow).port.cd = s.port.cd ∧
    (s.countLow).port.refused = s.port.refused ∧ (s.countLow).port.locked = s.port.locked ∧
    (s.countLow).port.intake = s.port.intake ∧ (s.countLow).port.headLatched = s.port.headLatched ∧
    (s.countLow).port.byteIdx = s.port.byteIdx ∧ (s.countLow).port.source = s.port.source ∧
    (s.countLow).port.snap = s.port.snap ∧ (s.countLow).port.snapPtr = s.port.snapPtr ∧
    (s.countLow).port.summaryLow = s.port.summaryLow ∧ (s.countLow).port.dataOut = s.port.dataOut ∧
    (s.countLow).port.demand = s.port.demand ∧ (s.countLow).port.roleValue = s.port.roleValue ∧
    (s.countLow).port.settings = s.port.settings := by
  simp only [State.countLow]
  repeat' split
  all_goals simp

@[simp] theorem midResync_frame (s : State) (h : Bool) :
    (s.midResync h).straps = s.straps ∧ (s.midResync h).pins = s.pins ∧
    (s.midResync h).wakeDet = s.wakeDet ∧ (s.midResync h).pending = s.pending ∧
    (s.midResync h).port.cd = s.port.cd ∧ (s.midResync h).port.refused = s.port.refused ∧
    (s.midResync h).port.locked = s.port.locked ∧ (s.midResync h).port.intake = s.port.intake ∧
    (s.midResync h).port.headLatched = s.port.headLatched ∧ (s.midResync h).port.byteIdx = s.port.byteIdx ∧
    (s.midResync h).port.source = s.port.source ∧ (s.midResync h).port.snap = s.port.snap ∧
    (s.midResync h).port.snapPtr = s.port.snapPtr ∧ (s.midResync h).port.summaryLow = s.port.summaryLow ∧
    (s.midResync h).port.dataOut = s.port.dataOut ∧ (s.midResync h).port.demand = s.port.demand ∧
    (s.midResync h).port.roleValue = s.port.roleValue ∧
    (s.midResync h).port.settings = s.port.settings := by
  simp only [State.midResync]
  repeat' split
  all_goals simp

@[simp] theorem midIdle_frame (s : State) (h : Bool) :
    (s.midIdle h).straps = s.straps ∧ (s.midIdle h).pins = s.pins ∧ (s.midIdle h).view = s.view ∧
    (s.midIdle h).scan = s.scan ∧ (s.midIdle h).pole = s.pole ∧ (s.midIdle h).budget = s.budget ∧
    (s.midIdle h).ceil = s.ceil ∧ (s.midIdle h).arb = s.arb ∧ (s.midIdle h).feed = s.feed ∧
    (s.midIdle h).slate = s.slate ∧ (s.midIdle h).wakeDet = s.wakeDet ∧ (s.midIdle h).port = s.port ∧
    (s.midIdle h).pending = s.pending := by
  simp only [State.midIdle]
  repeat' split
  all_goals simp

@[simp] theorem midFrame_frame (s : State) (h : Bool) :
    (s.midFrame h).straps = s.straps ∧ (s.midFrame h).pins = s.pins ∧ (s.midFrame h).wakeDet = s.wakeDet ∧
    (s.midFrame h).pending = s.pending ∧ (s.midFrame h).port.cd = s.port.cd ∧
    (s.midFrame h).port.refused = s.port.refused ∧ (s.midFrame h).port.locked = s.port.locked ∧
    (s.midFrame h).port.intake = s.port.intake ∧ (s.midFrame h).port.headLatched = s.port.headLatched ∧
    (s.midFrame h).port.byteIdx = s.port.byteIdx ∧ (s.midFrame h).port.source = s.port.source ∧
    (s.midFrame h).port.snap = s.port.snap ∧ (s.midFrame h).port.snapPtr = s.port.snapPtr ∧
    (s.midFrame h).port.summaryLow = s.port.summaryLow ∧ (s.midFrame h).port.dataOut = s.port.dataOut ∧
    (s.midFrame h).port.demand = s.port.demand ∧ (s.midFrame h).port.roleValue = s.port.roleValue ∧
    (s.midFrame h).port.settings = s.port.settings := by
  simp only [State.midFrame]
  repeat' split
  all_goals simp

@[simp] theorem midSlots_frame (s : State) (h : Bool) :
    (s.midSlots h).straps = s.straps ∧ (s.midSlots h).pins = s.pins ∧ (s.midSlots h).scan = s.scan ∧
    (s.midSlots h).slate = s.slate ∧ (s.midSlots h).wakeDet = s.wakeDet ∧
    (s.midSlots h).pending = s.pending ∧ (s.midSlots h).port.cd = s.port.cd ∧
    (s.midSlots h).port.refused = s.port.refused ∧ (s.midSlots h).port.locked = s.port.locked ∧
    (s.midSlots h).port.intake = s.port.intake ∧ (s.midSlots h).port.headLatched = s.port.headLatched ∧
    (s.midSlots h).port.byteIdx = s.port.byteIdx ∧ (s.midSlots h).port.source = s.port.source ∧
    (s.midSlots h).port.snap = s.port.snap ∧ (s.midSlots h).port.snapPtr = s.port.snapPtr ∧
    (s.midSlots h).port.summaryLow = s.port.summaryLow ∧ (s.midSlots h).port.dataOut = s.port.dataOut ∧
    (s.midSlots h).port.demand = s.port.demand ∧ (s.midSlots h).port.roleValue = s.port.roleValue ∧
    (s.midSlots h).port.settings = s.port.settings := by
  simp only [State.midSlots]
  repeat' split
  all_goals simp

@[simp] theorem stopLow_frame (s : State) :
    (s.stopLow).straps = s.straps ∧ (s.stopLow).pins = s.pins ∧ (s.stopLow).scan = s.scan ∧
    (s.stopLow).slate = s.slate ∧ (s.stopLow).wakeDet = s.wakeDet ∧ (s.stopLow).pending = s.pending ∧
    (s.stopLow).port.cd = s.port.cd ∧ (s.stopLow).port.refused = s.port.refused ∧
    (s.stopLow).port.locked = s.port.locked ∧ (s.stopLow).port.intake = s.port.intake ∧
    (s.stopLow).port.headLatched = s.port.headLatched ∧ (s.stopLow).port.byteIdx = s.port.byteIdx ∧
    (s.stopLow).port.source = s.port.source ∧ (s.stopLow).port.snap = s.port.snap ∧
    (s.stopLow).port.snapPtr = s.port.snapPtr ∧ (s.stopLow).port.summaryLow = s.port.summaryLow ∧
    (s.stopLow).port.dataOut = s.port.dataOut ∧ (s.stopLow).port.demand = s.port.demand ∧
    (s.stopLow).port.roleValue = s.port.roleValue ∧ (s.stopLow).port.settings = s.port.settings := by
  simp only [State.stopLow]
  repeat' split
  all_goals simp

@[simp] theorem midStop_frame (s : State) (h : Bool) :
    (s.midStop h).straps = s.straps ∧ (s.midStop h).pins = s.pins ∧ (s.midStop h).pending = s.pending ∧
    (s.midStop h).port.cd = s.port.cd ∧ (s.midStop h).port.refused = s.port.refused ∧
    (s.midStop h).port.locked = s.port.locked ∧ (s.midStop h).port.intake = s.port.intake ∧
    (s.midStop h).port.headLatched = s.port.headLatched ∧ (s.midStop h).port.byteIdx = s.port.byteIdx ∧
    (s.midStop h).port.source = s.port.source ∧ (s.midStop h).port.snap = s.port.snap ∧
    (s.midStop h).port.snapPtr = s.port.snapPtr ∧ (s.midStop h).port.summaryLow = s.port.summaryLow ∧
    (s.midStop h).port.dataOut = s.port.dataOut ∧ (s.midStop h).port.demand = s.port.demand ∧
    (s.midStop h).port.roleValue = s.port.roleValue ∧ (s.midStop h).port.settings = s.port.settings := by
  simp only [State.midStop]
  repeat' split
  all_goals simp

@[simp] theorem riseB_frame (s : State) :
    (s.riseB).straps = s.straps ∧ (s.riseB).pins = s.pins ∧ (s.riseB).view = s.view ∧
    (s.riseB).scan = s.scan ∧ (s.riseB).pole = s.pole ∧ (s.riseB).budget = s.budget ∧
    (s.riseB).ceil = s.ceil ∧ (s.riseB).arb = s.arb ∧ (s.riseB).feed = s.feed ∧ (s.riseB).slate = s.slate ∧
    (s.riseB).wakeDet = s.wakeDet ∧ (s.riseB).port = s.port ∧ (s.riseB).pending = s.pending := by
  simp only [State.riseB]
  simp

@[simp] theorem samplePhase_frame (s : State) :
    (s.samplePhase).straps = s.straps ∧ (s.samplePhase).pins = s.pins ∧
    (s.samplePhase).pending = s.pending ∧ (s.samplePhase).port.cd = s.port.cd ∧
    (s.samplePhase).port.refused = s.port.refused ∧ (s.samplePhase).port.locked = s.port.locked ∧
    (s.samplePhase).port.intake = s.port.intake ∧ (s.samplePhase).port.headLatched = s.port.headLatched ∧
    (s.samplePhase).port.byteIdx = s.port.byteIdx ∧ (s.samplePhase).port.source = s.port.source ∧
    (s.samplePhase).port.snap = s.port.snap ∧ (s.samplePhase).port.snapPtr = s.port.snapPtr ∧
    (s.samplePhase).port.summaryLow = s.port.summaryLow ∧ (s.samplePhase).port.dataOut = s.port.dataOut ∧
    (s.samplePhase).port.demand = s.port.demand ∧ (s.samplePhase).port.roleValue = s.port.roleValue ∧
    (s.samplePhase).port.settings = s.port.settings := by
  simp only [State.samplePhase]
  repeat' split
  all_goals simp

@[simp] theorem midSample_frame (s : State) :
    (s.midSample).straps = s.straps ∧ (s.midSample).pins = s.pins ∧ (s.midSample).pending = s.pending ∧
    (s.midSample).port.cd = s.port.cd ∧ (s.midSample).port.refused = s.port.refused ∧
    (s.midSample).port.locked = s.port.locked ∧ (s.midSample).port.intake = s.port.intake ∧
    (s.midSample).port.headLatched = s.port.headLatched ∧ (s.midSample).port.byteIdx = s.port.byteIdx ∧
    (s.midSample).port.source = s.port.source ∧ (s.midSample).port.snap = s.port.snap ∧
    (s.midSample).port.snapPtr = s.port.snapPtr ∧ (s.midSample).port.summaryLow = s.port.summaryLow ∧
    (s.midSample).port.dataOut = s.port.dataOut ∧ (s.midSample).port.demand = s.port.demand ∧
    (s.midSample).port.roleValue = s.port.roleValue ∧ (s.midSample).port.settings = s.port.settings := by
  simp only [State.midSample]
  repeat' split
  all_goals simp

/-- Power-on replaces everything but the waiting commands: what it does not set itself is as after reset. -/
@[simp] theorem powerOnState_frame (st : Straps) (p : Pins) (q : List Instr) :
    (powerOnState st p q).straps = st ∧ (powerOnState st p q).pins = p ∧
    (powerOnState st p q).line = { Line.reset with driver := driverStart p.pbHigh, beatLong := p.beatLong } ∧
    (powerOnState st p q).view = State.reset.view ∧ (powerOnState st p q).pole = State.reset.pole ∧
    (powerOnState st p q).budget = State.reset.budget ∧ (powerOnState st p q).arb = State.reset.arb ∧
    (powerOnState st p q).feed = State.reset.feed ∧ (powerOnState st p q).slate = State.reset.slate ∧
    (powerOnState st p q).wakeDet = State.reset.wakeDet ∧ (powerOnState st p q).port = State.reset.port ∧
    (powerOnState st p q).pending = q := by
  simp only [powerOnState]
  simp

end Sys2Proof.Laws
end

