-- ==== Sys2Proof/Laws/FramePort.lean ====
section
/-!
SUPPORT. What the local port and the millisecond leave unchanged: one lemma for each operation,
naming every block, and every field of the port, that it does not touch.
-/

namespace Sys2Proof.Laws

open Sys2Proof.Machine

@[simp] theorem paramsTaken_frame (s : State) :
    (s.paramsTaken).straps = s.straps ∧ (s.paramsTaken).pins = s.pins ∧ (s.paramsTaken).line = s.line ∧
    (s.paramsTaken).view = s.view ∧ (s.paramsTaken).scan = s.scan ∧ (s.paramsTaken).pole = s.pole ∧
    (s.paramsTaken).budget = s.budget ∧ (s.paramsTaken).ceil = s.ceil ∧ (s.paramsTaken).arb = s.arb ∧
    (s.paramsTaken).feed = s.feed ∧ (s.paramsTaken).slate = s.slate ∧ (s.paramsTaken).wakeDet = s.wakeDet ∧
    (s.paramsTaken).pending = s.pending ∧ (s.paramsTaken).port.refused = s.port.refused ∧
    (s.paramsTaken).port.lineUp = s.port.lineUp ∧ (s.paramsTaken).port.locked = s.port.locked ∧
    (s.paramsTaken).port.headLatched = s.port.headLatched ∧ (s.paramsTaken).port.byteIdx = s.port.byteIdx ∧
    (s.paramsTaken).port.source = s.port.source ∧ (s.paramsTaken).port.snap = s.port.snap ∧
    (s.paramsTaken).port.snapPtr = s.port.snapPtr ∧ (s.paramsTaken).port.summaryLow = s.port.summaryLow ∧
    (s.paramsTaken).port.dataOut = s.port.dataOut ∧ (s.paramsTaken).port.demand = s.port.demand ∧
    (s.paramsTaken).port.roleValue = s.port.roleValue ∧
    (s.paramsTaken).port.settings = s.port.settings := by
  simp only [State.paramsTaken]
  simp

@[simp] theorem commandByte_frame (s : State) :
    (s.commandByte).straps = s.straps ∧ (s.commandByte).pins = s.pins ∧ (s.commandByte).line = s.line ∧
    (s.commandByte).view = s.view ∧ (s.commandByte).scan = s.scan ∧ (s.commandByte).pole = s.pole ∧
    (s.commandByte).budget = s.budget ∧ (s.commandByte).ceil = s.ceil ∧ (s.commandByte).arb = s.arb ∧
    (s.commandByte).feed = s.feed ∧ (s.commandByte).slate = s.slate ∧ (s.commandByte).wakeDet = s.wakeDet ∧
    (s.commandByte).pending = s.pending ∧ (s.commandByte).port.refused = s.port.refused ∧
    (s.commandByte).port.lineUp = s.port.lineUp ∧ (s.commandByte).port.locked = s.port.locked ∧
    (s.commandByte).port.headLatched = s.port.headLatched ∧ (s.commandByte).port.byteIdx = s.port.byteIdx ∧
    (s.commandByte).port.source = s.port.source ∧ (s.commandByte).port.snap = s.port.snap ∧
    (s.commandByte).port.snapPtr = s.port.snapPtr ∧ (s.commandByte).port.summaryLow = s.port.summaryLow ∧
    (s.commandByte).port.dataOut = s.port.dataOut ∧ (s.commandByte).port.demand = s.port.demand ∧
    (s.commandByte).port.roleValue = s.port.roleValue ∧
    (s.commandByte).port.settings = s.port.settings := by
  simp only [State.commandByte]
  simp

@[simp] theorem settleNow_frame (s : State) :
    (s.settleNow).straps = s.straps ∧ (s.settleNow).pins = s.pins ∧ (s.settleNow).line = s.line ∧
    (s.settleNow).view = s.view ∧ (s.settleNow).pole = s.pole ∧ (s.settleNow).budget = s.budget ∧
    (s.settleNow).ceil = s.ceil ∧ (s.settleNow).arb = s.arb ∧ (s.settleNow).feed = s.feed ∧
    (s.settleNow).slate = s.slate ∧ (s.settleNow).wakeDet = s.wakeDet ∧ (s.settleNow).port = s.port ∧
    (s.settleNow).pending = s.pending := by
  simp only [State.settleNow]
  repeat' split
  all_goals simp

@[simp] theorem settingWritten_frame (s : State) (c : Nat) :
    (s.settingWritten c).straps = s.straps ∧ (s.settingWritten c).pins = s.pins ∧
    (s.settingWritten c).line = s.line ∧ (s.settingWritten c).view = s.view ∧
    (s.settingWritten c).pole = s.pole ∧ (s.settingWritten c).budget = s.budget ∧
    (s.settingWritten c).ceil = s.ceil ∧ (s.settingWritten c).arb = s.arb ∧
    (s.settingWritten c).slate = s.slate ∧ (s.settingWritten c).wakeDet = s.wakeDet ∧
    (s.settingWritten c).pending = s.pending ∧ (s.settingWritten c).port.cd = s.port.cd ∧
    (s.settingWritten c).port.refused = s.port.refused ∧ (s.settingWritten c).port.lineUp = s.port.lineUp ∧
    (s.settingWritten c).port.locked = s.port.locked ∧ (s.settingWritten c).port.intake = s.port.intake ∧
    (s.settingWritten c).port.headLatched = s.port.headLatched ∧
    (s.settingWritten c).port.byteIdx = s.port.byteIdx ∧ (s.settingWritten c).port.source = s.port.source ∧
    (s.settingWritten c).port.snap = s.port.snap ∧ (s.settingWritten c).port.snapPtr = s.port.snapPtr ∧
    (s.settingWritten c).port.summaryLow = s.port.summaryLow ∧
    (s.settingWritten c).port.dataOut = s.port.dataOut ∧ (s.settingWritten c).port.demand = s.port.demand ∧
    (s.settingWritten c).port.roleValue = s.port.roleValue ∧
    (s.settingWritten c).port.settings = s.port.settings := by
  simp only [State.settingWritten]
  repeat' split
  all_goals simp

@[simp] theorem cfgWrite_frame (s : State) (i : Byte) (v : BitVec 16) :
    (s.cfgWrite i v).straps = s.straps ∧ (s.cfgWrite i v).pins = s.pins ∧ (s.cfgWrite i v).line = s.line ∧
    (s.cfgWrite i v).view = s.view ∧ (s.cfgWrite i v).pole = s.pole ∧ (s.cfgWrite i v).budget = s.budget ∧
    (s.cfgWrite i v).ceil = s.ceil ∧ (s.cfgWrite i v).arb = s.arb ∧ (s.cfgWrite i v).slate = s.slate ∧
    (s.cfgWrite i v).wakeDet = s.wakeDet ∧ (s.cfgWrite i v).pending = s.pending ∧
    (s.cfgWrite i v).port.cd = s.port.cd ∧ (s.cfgWrite i v).port.lineUp = s.port.lineUp ∧
    (s.cfgWrite i v).port.locked = s.port.locked ∧ (s.cfgWrite i v).port.intake = s.port.intake ∧
    (s.cfgWrite i v).port.headLatched = s.port.headLatched ∧
    (s.cfgWrite i v).port.byteIdx = s.port.byteIdx ∧ (s.cfgWrite i v).port.source = s.port.source ∧
    (s.cfgWrite i v).port.snap = s.port.snap ∧ (s.cfgWrite i v).port.snapPtr = s.port.snapPtr ∧
    (s.cfgWrite i v).port.summaryLow = s.port.summaryLow ∧ (s.cfgWrite i v).port.dataOut = s.port.dataOut ∧
    (s.cfgWrite i v).port.demand = s.port.demand ∧ (s.cfgWrite i v).port.roleValue = s.port.roleValue := by
  simp only [State.cfgWrite]
  repeat' split
  all_goals simp

@[simp] theorem cfgLock_frame (s : State) :
    (s.cfgLock).straps = s.straps ∧ (s.cfgLock).pins = s.pins ∧ (s.cfgLock).line = s.line ∧
    (s.cfgLock).view = s.view ∧ (s.cfgLock).scan = s.scan ∧ (s.cfgLock).pole = s.pole ∧
    (s.cfgLock).budget = s.budget ∧ (s.cfgLock).ceil = s.ceil ∧ (s.cfgLock).arb = s.arb ∧
    (s.cfgLock).feed = s.feed ∧ (s.cfgLock).slate = s.slate ∧ (s.cfgLock).wakeDet = s.wakeDet ∧
    (s.cfgLock).pending = s.pending ∧ (s.cfgLock).port.cd = s.port.cd ∧
    (s.cfgLock).port.lineUp = s.port.lineUp ∧ (s.cfgLock).port.intake = s.port.intake ∧
    (s.cfgLock).port.headLatched = s.port.headLatched ∧ (s.cfgLock).port.byteIdx = s.port.byteIdx ∧
    (s.cfgLock).port.source = s.port.source ∧ (s.cfgLock).port.snap = s.port.snap ∧
    (s.cfgLock).port.snapPtr = s.port.snapPtr ∧ (s.cfgLock).port.summaryLow = s.port.summaryLow ∧
    (s.cfgLock).port.dataOut = s.port.dataOut ∧ (s.cfgLock).port.demand = s.port.demand ∧
    (s.cfgLock).port.roleValue = s.port.roleValue ∧ (s.cfgLock).port.settings = s.port.settings := by
  simp only [State.cfgLock]
  repeat' split
  all_goals simp

@[simp] theorem demandCmd_frame (s : State) (v : BitVec 16) :
    (s.demandCmd v).straps = s.straps ∧ (s.demandCmd v).pins = s.pins ∧ (s.demandCmd v).line = s.line ∧
    (s.demandCmd v).view = s.view ∧ (s.demandCmd v).scan = s.scan ∧ (s.demandCmd v).pole = s.pole ∧
    (s.demandCmd v).budget = s.budget ∧ (s.demandCmd v).arb = s.arb ∧ (s.demandCmd v).feed = s.feed ∧
    (s.demandCmd v).slate = s.slate ∧ (s.demandCmd v).wakeDet = s.wakeDet ∧
    (s.demandCmd v).pending = s.pending ∧ (s.demandCmd v).port.cd = s.port.cd ∧
    (s.demandCmd v).port.lineUp = s.port.lineUp ∧ (s.demandCmd v).port.locked = s.port.locked ∧
    (s.demandCmd v).port.intake = s.port.intake ∧ (s.demandCmd v).port.headLatched = s.port.headLatched ∧
    (s.demandCmd v).port.byteIdx = s.port.byteIdx ∧ (s.demandCmd v).port.source = s.port.source ∧
    (s.demandCmd v).port.snap = s.port.snap ∧ (s.demandCmd v).port.snapPtr = s.port.snapPtr ∧
    (s.demandCmd v).port.summaryLow = s.port.summaryLow ∧ (s.demandCmd v).port.dataOut = s.port.dataOut ∧
    (s.demandCmd v).port.roleValue = s.port.roleValue ∧
    (s.demandCmd v).port.settings = s.port.settings := by
  simp only [State.demandCmd]
  repeat' split
  all_goals simp

@[simp] theorem roleValueCmd_frame (s : State) (v : BitVec 16) :
    (s.roleValueCmd v).straps = s.straps ∧ (s.roleValueCmd v).pins = s.pins ∧
    (s.roleValueCmd v).line = s.line ∧ (s.roleValueCmd v).view = s.view ∧ (s.roleValueCmd v).scan = s.scan ∧
    (s.roleValueCmd v).pole = s.pole ∧ (s.roleValueCmd v).budget = s.budget ∧
    (s.roleValueCmd v).ceil = s.ceil ∧ (s.roleValueCmd v).arb = s.arb ∧ (s.roleValueCmd v).feed = s.feed ∧
    (s.roleValueCmd v).slate = s.slate ∧ (s.roleValueCmd v).wakeDet = s.wakeDet ∧
    (s.roleValueCmd v).pending = s.pending ∧ (s.roleValueCmd v).port.cd = s.port.cd ∧
    (s.roleValueCmd v).port.lineUp = s.port.lineUp ∧ (s.roleValueCmd v).port.locked = s.port.locked ∧
    (s.roleValueCmd v).port.intake = s.port.intake ∧
    (s.roleValueCmd v).port.headLatched = s.port.headLatched ∧
    (s.roleValueCmd v).port.byteIdx = s.port.byteIdx ∧ (s.roleValueCmd v).port.source = s.port.source ∧
    (s.roleValueCmd v).port.snap = s.port.snap ∧ (s.roleValueCmd v).port.snapPtr = s.port.snapPtr ∧
    (s.roleValueCmd v).port.summaryLow = s.port.summaryLow ∧
    (s.roleValueCmd v).port.dataOut = s.port.dataOut ∧ (s.roleValueCmd v).port.demand = s.port.demand ∧
    (s.roleValueCmd v).port.settings = s.port.settings := by
  simp only [State.roleValueCmd]
  repeat' split
  all_goals simp

@[simp] theorem maskOne_frame (s : State) (i : Fin 8) (b : Bool) :
    (s.maskOne i b).straps = s.straps ∧ (s.maskOne i b).pins = s.pins ∧ (s.maskOne i b).line = s.line ∧
    (s.maskOne i b).view = s.view ∧ (s.maskOne i b).scan = s.scan ∧ (s.maskOne i b).pole = s.pole ∧
    (s.maskOne i b).budget = s.budget ∧ (s.maskOne i b).ceil = s.ceil ∧ (s.maskOne i b).arb = s.arb ∧
    (s.maskOne i b).slate = s.slate ∧ (s.maskOne i b).wakeDet = s.wakeDet ∧
    (s.maskOne i b).pending = s.pending ∧ (s.maskOne i b).port.cd = s.port.cd ∧
    (s.maskOne i b).port.refused = s.port.refused ∧ (s.maskOne i b).port.lineUp = s.port.lineUp ∧
    (s.maskOne i b).port.locked = s.port.locked ∧ (s.maskOne i b).port.intake = s.port.intake ∧
    (s.maskOne i b).port.headLatched = s.port.headLatched ∧ (s.maskOne i b).port.byteIdx = s.port.byteIdx ∧
    (s.maskOne i b).port.source = s.port.source ∧ (s.maskOne i b).port.snap = s.port.snap ∧
    (s.maskOne i b).port.snapPtr = s.port.snapPtr ∧ (s.maskOne i b).port.summaryLow = s.port.summaryLow ∧
    (s.maskOne i b).port.dataOut = s.port.dataOut ∧ (s.maskOne i b).port.demand = s.port.demand ∧
    (s.maskOne i b).port.roleValue = s.port.roleValue ∧
    (s.maskOne i b).port.settings = s.port.settings := by
  simp only [State.maskOne]
  repeat' split
  all_goals simp

@[simp] theorem maskAll_frame (s : State) (l : List (Fin 8)) (m : Byte) :
    (State.maskAll l m s).straps = s.straps ∧ (State.maskAll l m s).pins = s.pins ∧
    (State.maskAll l m s).line = s.line ∧ (State.maskAll l m s).view = s.view ∧
    (State.maskAll l m s).scan = s.scan ∧ (State.maskAll l m s).pole = s.pole ∧
    (State.maskAll l m s).budget = s.budget ∧ (State.maskAll l m s).ceil = s.ceil ∧
    (State.maskAll l m s).arb = s.arb ∧ (State.maskAll l m s).slate = s.slate ∧
    (State.maskAll l m s).wakeDet = s.wakeDet ∧ (State.maskAll l m s).pending = s.pending ∧
    (State.maskAll l m s).port.cd = s.port.cd ∧ (State.maskAll l m s).port.refused = s.port.refused ∧
    (State.maskAll l m s).port.lineUp = s.port.lineUp ∧ (State.maskAll l m s).port.locked = s.port.locked ∧
    (State.maskAll l m s).port.intake = s.port.intake ∧
    (State.maskAll l m s).port.headLatched = s.port.headLatched ∧
    (State.maskAll l m s).port.byteIdx = s.port.byteIdx ∧
    (State.maskAll l m s).port.source = s.port.source ∧ (State.maskAll l m s).port.snap = s.port.snap ∧
    (State.maskAll l m s).port.snapPtr = s.port.snapPtr ∧
    (State.maskAll l m s).port.summaryLow = s.port.summaryLow ∧
    (State.maskAll l m s).port.dataOut = s.port.dataOut ∧
    (State.maskAll l m s).port.demand = s.port.demand ∧
    (State.maskAll l m s).port.roleValue = s.port.roleValue ∧
    (State.maskAll l m s).port.settings = s.port.settings := by
  induction l generalizing s with
  | nil => simp [State.maskAll]
  | cons i r ih => simp [State.maskAll, ih]

@[simp] theorem feederMaskCmd_frame (s : State) (m : Byte) :
    (s.feederMaskCmd m).straps = s.straps ∧ (s.feederMaskCmd m).pins = s.pins ∧
    (s.feederMaskCmd m).line = s.line ∧ (s.feederMaskCmd m).view = s.view ∧
    (s.feederMaskCmd m).scan = s.scan ∧ (s.feederMaskCmd m).pole = s.pole ∧
    (s.feederMaskCmd m).budget = s.budget ∧ (s.feederMaskCmd m).ceil = s.ceil ∧
    (s.feederMaskCmd m).slate = s.slate ∧ (s.feederMaskCmd m).wakeDet = s.wakeDet ∧
    (s.feederMaskCmd m).pending = s.pending ∧ (s.feederMaskCmd m).port.cd = s.port.cd ∧
    (s.feederMaskCmd m).port.lineUp = s.port.lineUp ∧ (s.feederMaskCmd m).port.locked = s.port.locked ∧
    (s.feederMaskCmd m).port.intake = s.port.intake ∧
    (s.feederMaskCmd m).port.headLatched = s.port.headLatched ∧
    (s.feederMaskCmd m).port.byteIdx = s.port.byteIdx ∧ (s.feederMaskCmd m).port.source = s.port.source ∧
    (s.feederMaskCmd m).port.snap = s.port.snap ∧ (s.feederMaskCmd m).port.snapPtr = s.port.snapPtr ∧
    (s.feederMaskCmd m).port.summaryLow = s.port.summaryLow ∧
    (s.feederMaskCmd m).port.dataOut = s.port.dataOut ∧ (s.feederMaskCmd m).port.demand = s.port.demand ∧
    (s.feederMaskCmd m).port.roleValue = s.port.roleValue ∧
    (s.feederMaskCmd m).port.settings = s.port.settings := by
  simp only [State.feederMaskCmd]
  repeat' split
  all_goals simp

@[simp] theorem snapshotCmd_frame (s : State) (i j : Byte) :
    (s.snapshotCmd i j).straps = s.straps ∧ (s.snapshotCmd i j).pins = s.pins ∧
    (s.snapshotCmd i j).line = s.line ∧ (s.snapshotCmd i j).view = s.view ∧
    (s.snapshotCmd i j).scan = s.scan ∧ (s.snapshotCmd i j).pole = s.pole ∧
    (s.snapshotCmd i j).budget = s.budget ∧ (s.snapshotCmd i j).ceil = s.ceil ∧
    (s.snapshotCmd i j).arb = s.arb ∧ (s.snapshotCmd i j).feed = s.feed ∧
    (s.snapshotCmd i j).slate = s.slate ∧ (s.snapshotCmd i j).wakeDet = s.wakeDet ∧
    (s.snapshotCmd i j).pending = s.pending ∧ (s.snapshotCmd i j).port.cd = s.port.cd ∧
    (s.snapshotCmd i j).port.lineUp = s.port.lineUp ∧ (s.snapshotCmd i j).port.locked = s.port.locked ∧
    (s.snapshotCmd i j).port.intake = s.port.intake ∧
    (s.snapshotCmd i j).port.headLatched = s.port.headLatched ∧
    (s.snapshotCmd i j).port.byteIdx = s.port.byteIdx ∧
    (s.snapshotCmd i j).port.summaryLow = s.port.summaryLow ∧
    (s.snapshotCmd i j).port.dataOut = s.port.dataOut ∧ (s.snapshotCmd i j).port.demand = s.port.demand ∧
    (s.snapshotCmd i j).port.roleValue = s.port.roleValue ∧
    (s.snapshotCmd i j).port.settings = s.port.settings := by
  simp only [State.snapshotCmd]
  repeat' split
  all_goals simp

@[simp] theorem runParams_frame (s : State) (c : ParamCommand) (l : List Byte) :
    (s.runParams c l).straps = s.straps ∧ (s.runParams c l).pins = s.pins ∧
    (s.runParams c l).line = s.line ∧ (s.runParams c l).view = s.view ∧ (s.runParams c l).pole = s.pole ∧
    (s.runParams c l).budget = s.budget ∧ (s.runParams c l).slate = s.slate ∧
    (s.runParams c l).wakeDet = s.wakeDet ∧ (s.runParams c l).pending = s.pending ∧
    (s.runParams c l).port.cd = s.port.cd ∧ (s.runParams c l).port.lineUp = s.port.lineUp ∧
    (s.runParams c l).port.locked = s.port.locked ∧ (s.runParams c l).port.intake = s.port.intake ∧
    (s.runParams c l).port.headLatched = s.port.headLatched ∧
    (s.runParams c l).port.byteIdx = s.port.byteIdx ∧
    (s.runParams c l).port.summaryLow = s.port.summaryLow ∧
    (s.runParams c l).port.dataOut = s.port.dataOut := by
  simp only [State.runParams]
  repeat' split
  all_goals simp

@[simp] theorem parameterByte_frame (s : State) (b : Byte) :
    (s.parameterByte b).straps = s.straps ∧ (s.parameterByte b).pins = s.pins ∧
    (s.parameterByte b).line = s.line ∧ (s.parameterByte b).view = s.view ∧
    (s.parameterByte b).pole = s.pole ∧ (s.parameterByte b).budget = s.budget ∧
    (s.parameterByte b).slate = s.slate ∧ (s.parameterByte b).wakeDet = s.wakeDet ∧
    (s.parameterByte b).pending = s.pending ∧ (s.parameterByte b).port.lineUp = s.port.lineUp ∧
    (s.parameterByte b).port.locked = s.port.locked ∧
    (s.parameterByte b).port.headLatched = s.port.headLatched ∧
    (s.parameterByte b).port.byteIdx = s.port.byteIdx ∧
    (s.parameterByte b).port.summaryLow = s.port.summaryLow ∧
    (s.parameterByte b).port.dataOut = s.port.dataOut := by
  simp only [State.parameterByte]
  repeat' split
  all_goals simp

@[simp] theorem statusRead_frame (s : State) :
    (s.statusRead).straps = s.straps ∧ (s.statusRead).pins = s.pins ∧ (s.statusRead).line = s.line ∧
    (s.statusRead).view = s.view ∧ (s.statusRead).scan = s.scan ∧ (s.statusRead).pole = s.pole ∧
    (s.statusRead).budget = s.budget ∧ (s.statusRead).ceil = s.ceil ∧ (s.statusRead).arb = s.arb ∧
    (s.statusRead).feed = s.feed ∧ (s.statusRead).slate = s.slate ∧ (s.statusRead).wakeDet = s.wakeDet ∧
    (s.statusRead).pending = s.pending ∧ (s.statusRead).port.cd = s.port.cd ∧
    (s.statusRead).port.lineUp = s.port.lineUp ∧ (s.statusRead).port.locked = s.port.locked ∧
    (s.statusRead).port.intake = s.port.intake ∧ (s.statusRead).port.headLatched = s.port.headLatched ∧
    (s.statusRead).port.byteIdx = s.port.byteIdx ∧ (s.statusRead).port.source = s.port.source ∧
    (s.statusRead).port.snap = s.port.snap ∧ (s.statusRead).port.snapPtr = s.port.snapPtr ∧
    (s.statusRead).port.summaryLow = s.port.summaryLow ∧ (s.statusRead).port.demand = s.port.demand ∧
    (s.statusRead).port.roleValue = s.port.roleValue ∧ (s.statusRead).port.settings = s.port.settings := by
  simp only [State.statusRead]
  simp

@[simp] theorem summaryRead_frame (s : State) :
    (s.summaryRead).straps = s.straps ∧ (s.summaryRead).pins = s.pins ∧ (s.summaryRead).line = s.line ∧
    (s.summaryRead).view = s.view ∧ (s.summaryRead).scan = s.scan ∧ (s.summaryRead).pole = s.pole ∧
    (s.summaryRead).budget = s.budget ∧ (s.summaryRead).ceil = s.ceil ∧ (s.summaryRead).arb = s.arb ∧
    (s.summaryRead).feed = s.feed ∧ (s.summaryRead).slate = s.slate ∧ (s.summaryRead).wakeDet = s.wakeDet ∧
    (s.summaryRead).pending = s.pending ∧ (s.summaryRead).port.cd = s.port.cd ∧
    (s.summaryRead).port.refused = s.port.refused ∧ (s.summaryRead).port.lineUp = s.port.lineUp ∧
    (s.summaryRead).port.locked = s.port.locked ∧ (s.summaryRead).port.intake = s.port.intake ∧
    (s.summaryRead).port.headLatched = s.port.headLatched ∧ (s.summaryRead).port.byteIdx = s.port.byteIdx ∧
    (s.summaryRead).port.source = s.port.source ∧ (s.summaryRead).port.snap = s.port.snap ∧
    (s.summaryRead).port.snapPtr = s.port.snapPtr ∧ (s.summaryRead).port.demand = s.port.demand ∧
    (s.summaryRead).port.roleValue = s.port.roleValue ∧
    (s.summaryRead).port.settings = s.port.settings := by
  simp only [State.summaryRead]
  repeat' split
  all_goals simp

@[simp] theorem tick_frame (s : State) :
    (s.tick).straps = s.straps ∧ (s.tick).pins = s.pins ∧ (s.tick).view = s.view ∧ (s.tick).ceil = s.ceil ∧
    (s.tick).arb = s.arb ∧ (s.tick).feed = s.feed ∧ (s.tick).wakeDet = s.wakeDet ∧ (s.tick).port = s.port ∧
    (s.tick).pending = s.pending := by
  simp only [State.tick]
  simp

end Sys2Proof.Laws
end

