-- ==== Sys2Proof/Laws/Grants.lean ====
section
/-!
SUPPORT. The allocation (R112): a tier never gives more than is left, and grants and remainder share out the
availability; the operations that touch the grant set keep that.
-/

namespace Sys2Proof.Laws

open Sys2Proof.Machine

/-- A tier's grants do not exceed what was left for it (R112). -/
theorem allotTier_sum_le (r : Nat) (cs : Eight Nat) : (allotTier r cs).sum ≤ r := by
  unfold allotTier
  split
  · assumption
  · rename_i h
    have hpos : 0 < cs.sum := by omega
    have add : ∀ a b : Nat, a / cs.sum + b / cs.sum ≤ (a + b) / cs.sum := fun _ _ =>
      Nat.div_add_div_le_add_div
    have key : (r * cs.e0 + r * cs.e1 + r * cs.e2 + r * cs.e3 + r * cs.e4 + r * cs.e5 + r * cs.e6 +
        r * cs.e7) / cs.sum = r := by
      have : r * cs.e0 + r * cs.e1 + r * cs.e2 + r * cs.e3 + r * cs.e4 + r * cs.e5 + r * cs.e6 +
          r * cs.e7 = r * cs.sum := by simp only [Eight.sum, Nat.mul_add]
      rw [this, Nat.mul_div_cancel r hpos]
    refine le_trans ?_ (le_of_eq key)
    change r * cs.e0 / cs.sum + r * cs.e1 / cs.sum + r * cs.e2 / cs.sum + r * cs.e3 / cs.sum +
      r * cs.e4 / cs.sum + r * cs.e5 / cs.sum + r * cs.e6 / cs.sum + r * cs.e7 / cs.sum ≤ _
    refine le_trans (Nat.add_le_add_right ?_ _) (add _ _)
    refine le_trans (Nat.add_le_add_right ?_ _) (add _ _)
    refine le_trans (Nat.add_le_add_right ?_ _) (add _ _)
    refine le_trans (Nat.add_le_add_right ?_ _) (add _ _)
    refine le_trans (Nat.add_le_add_right ?_ _) (add _ _)
    refine le_trans (Nat.add_le_add_right ?_ _) (add _ _)
    exact add _ _

/-- Grants and remainder share out the availability (R112). -/
theorem allot_sum (a : Nat) (es : Eight PeerEntry) : (allot a es).1.sum + (allot a es).2 = a := by
  have h3 := allotTier_sum_le a (tierClaims es 3)
  have h2 := allotTier_sum_le (a - (allotTier a (tierClaims es 3)).sum) (tierClaims es 2)
  have h1 := allotTier_sum_le (a - (allotTier a (tierClaims es 3)).sum -
    (allotTier (a - (allotTier a (tierClaims es 3)).sum) (tierClaims es 2)).sum) (tierClaims es 1)
  simp only [allot, Eight.ofFn, Eight.get, Eight.sum] at *
  omega

/-- A grant set that differs only in fields the invariant does not read. -/
@[simp] theorem grantsOk_flags (b : Budget) (st u lav off oc uc cu ch li : Nat) (lo lm : Bool)
    (od : Bool) (tr : Option Nat) :
    grantsOk ⟨b.kind, st, lo, u, lav, off, b.avail, b.grants, b.remainder, lm, od, oc, uc, tr, cu, ch, li⟩ ↔
      grantsOk b := Iff.rfl

/-- A trip leaves the grant set (R116). -/
@[simp] theorem grantsOk_tripped (b : Budget) (n : Nat) : grantsOk (b.tripped n) ↔ grantsOk b := Iff.rfl

/-- The over and under counts leave the grant set (R115). -/
@[simp] theorem grantsOk_moveCounts (b : Budget) (m g i : Nat) :
    grantsOk (b.moveCounts m g i) ↔ grantsOk b := by
  unfold Budget.moveCounts
  repeat' split
  all_goals exact Iff.rfl

@[simp] theorem grantsOk_backWithin (b : Budget) : grantsOk b.backWithin ↔ grantsOk b := by
  unfold Budget.backWithin
  split <;> exact Iff.rfl

/-- The vehicle overcurrent check leaves the grant set (R118). -/
@[simp] theorem grantsOk_vehicleCheck (b : Budget) (t : Settings) (i : Nat) :
    grantsOk (b.vehicleCheck t i) ↔ grantsOk b := by
  unfold Budget.vehicleCheck
  repeat' split
  all_goals exact Iff.rfl

@[simp] theorem grantsOk_lastI (b : Budget) (n : Nat) : grantsOk { b with lastI := n } ↔ grantsOk b := Iff.rfl

/-- A VIEW evaluation (R108 to R112). -/
@[simp] theorem grantsOk_viewEval (b : Budget) (t : Settings) (v : View) (st : Nat) :
    grantsOk (b.viewEval t v st) := ⟨allot_sum _ _, by simp [Budget.viewEval]⟩

/-- One grant at one place (R123). -/
theorem sum_set_zero (i : Fin 8) (g : Nat) : ((Eight.all 0).set i g).sum = g := by
  fin_cases i <;> simp [Eight.all, Eight.set, Eight.sum]

theorem limpGrant_le (s : State) : s.limpGrant ≤ s.port.settings.limpA := by
  unfold State.limpGrant
  split <;> omega

/-- A limp evaluation (R123). -/
@[simp] theorem grantsOk_limpBudget (s : State) : grantsOk s.limpBudget := by
  have := limpGrant_le s
  refine ⟨?_, by simp [State.limpBudget]⟩
  simp only [State.limpBudget, sum_set_zero]
  omega

/-- A cleared grant set (R125). -/
@[simp] theorem grantsOk_cleared (b : Budget) : grantsOk b.cleared := by
  simp [grantsOk, Budget.cleared, Eight.all, Eight.sum]

end Sys2Proof.Laws
end

