-- ==== Sys2Proof/Laws/GrantsOps.lean ====
section
/-!
SUPPORT. Every operation that touches the grant set keeps its invariant (R107, R112): one lemma each.
-/

namespace Sys2Proof.Laws

open Sys2Proof.Machine

@[simp] theorem grantsOk_budgetUpdate (s : State) (r : RoundRecord)
    (h : grantsOk s.budget) : grantsOk (s.budgetUpdate r).budget := by
  simp only [State.budgetUpdate]
  repeat' split
  all_goals simp (maxDischargeDepth := 12) [h]

@[simp] theorem grantsOk_limpEvaluate (s : State) : grantsOk (s.limpEvaluate).budget := by
  simp only [State.limpEvaluate]
  simp (maxDischargeDepth := 12)

@[simp] theorem grantsOk_trip (s : State) (h : grantsOk s.budget) : grantsOk (s.trip).budget := by
  simp only [State.trip]
  simp (maxDischargeDepth := 12) [h]

@[simp] theorem grantsOk_checkCurrent (s : State) (i : Nat)
    (h : grantsOk s.budget) : grantsOk (s.checkCurrent i).budget := by
  simp only [State.checkCurrent]
  repeat' split
  all_goals simp (maxDischargeDepth := 12) [h]

@[simp] theorem grantsOk_overdrawCheck (s : State) (r : Raw)
    (h : grantsOk s.budget) : grantsOk (s.overdrawCheck r).budget := by
  simp only [State.overdrawCheck]
  repeat' split
  all_goals simp (maxDischargeDepth := 12) [h]

@[simp] theorem grantsOk_enterLimp (s : State) : grantsOk (s.enterLimp).budget := by
  simp only [State.enterLimp]
  simp (maxDischargeDepth := 12)

@[simp] theorem grantsOk_enterLineDown (s : State) (c v n : Nat) : grantsOk (s.enterLineDown c v n).budget := by
  simp only [State.enterLineDown]
  simp (maxDischargeDepth := 12)

@[simp] theorem grantsOk_lineFault (s : State) (c n : Nat)
    (h : grantsOk s.budget) : grantsOk (s.lineFault c n).budget := by
  simp only [State.lineFault]
  repeat' split
  all_goals simp (maxDischargeDepth := 12) [h]

@[simp] theorem grantsOk_discard (s : State) (n : Nat)
    (h : grantsOk s.budget) : grantsOk (s.discard n).budget := by
  simp only [State.discard]
  repeat' split
  all_goals simp (maxDischargeDepth := 12) [h]

@[simp] theorem grantsOk_enterClashed (s : State) (k : Nat) : grantsOk (s.enterClashed k).budget := by
  simp only [State.enterClashed]
  simp (maxDischargeDepth := 12)

@[simp] theorem grantsOk_cutHoldDown (s : State)
    (h : grantsOk s.budget) : grantsOk (s.cutHoldDown).budget := by
  simp only [State.cutHoldDown]
  simp (maxDischargeDepth := 12) [h]

@[simp] theorem grantsOk_limpAtStart (s : State)
    (h : grantsOk s.budget) : grantsOk (s.limpAtStart).budget := by
  simp only [State.limpAtStart]
  repeat' split
  all_goals simp (maxDischargeDepth := 12) [h]

@[simp] theorem grantsOk_startFrame (s : State)
    (h : grantsOk s.budget) : grantsOk (s.startFrame).budget := by
  simp only [State.startFrame]
  simp (maxDischargeDepth := 12) [h]

@[simp] theorem grantsOk_slotEnd (s : State) (k : Nat)
    (h : grantsOk s.budget) : grantsOk (s.slotEnd k).budget := by
  simp only [State.slotEnd]
  repeat' split
  all_goals simp (maxDischargeDepth := 12) [h]

@[simp] theorem grantsOk_endSample (s : State) (h : grantsOk s.budget) : grantsOk (s.endSample).budget := by
  simp only [State.endSample]
  repeat' split
  all_goals simp (maxDischargeDepth := 12) [h]

@[simp] theorem grantsOk_fallingEdge (s : State)
    (h : grantsOk s.budget) : grantsOk (s.fallingEdge).budget := by
  simp only [State.fallingEdge]
  repeat' split
  all_goals simp (maxDischargeDepth := 12) [h]

@[simp] theorem grantsOk_lowHalfEnd (s : State)
    (h : grantsOk s.budget) : grantsOk (s.lowHalfEnd).budget := by
  simp only [State.lowHalfEnd]
  repeat' split
  all_goals simp (maxDischargeDepth := 12) [h]

@[simp] theorem grantsOk_sleepBudget (s : State) : grantsOk (s.sleepBudget).budget := by
  simp only [State.sleepBudget]
  repeat' split
  all_goals simp (maxDischargeDepth := 12)

@[simp] theorem grantsOk_fallAsleep (s : State) : grantsOk (s.fallAsleep).budget := by
  simp only [State.fallAsleep]
  simp (maxDischargeDepth := 12)

@[simp] theorem grantsOk_enterAsleep (s : State) : grantsOk (s.enterAsleep).budget := by
  simp only [State.enterAsleep]
  repeat' split
  all_goals simp (maxDischargeDepth := 12)

@[simp] theorem grantsOk_resetAwake (s : State) : grantsOk (s.resetAwake).budget := by
  simp only [State.resetAwake]
  simp (maxDischargeDepth := 12)

@[simp] theorem grantsOk_stationReset (s : State) : grantsOk (s.stationReset).budget := by
  simp only [State.stationReset]
  simp (maxDischargeDepth := 12)

@[simp] theorem grantsOk_layoverStep (s : State) (r : RoundRecord)
    (h : grantsOk s.budget) : grantsOk (s.layoverStep r).budget := by
  simp only [State.layoverStep]
  repeat' split
  all_goals simp (maxDischargeDepth := 12) [h]

@[simp] theorem grantsOk_evalUpdate (s : State) (r : RoundRecord)
    (h : grantsOk s.budget) : grantsOk (s.evalUpdate r).budget := by
  simp only [State.evalUpdate]
  simp (maxDischargeDepth := 12) [h]

@[simp] theorem grantsOk_viewUpdate (s : State) (r : RoundRecord)
    (h : grantsOk s.budget) : grantsOk (s.viewUpdate r).budget := by
  simp only [State.viewUpdate]
  simp (maxDischargeDepth := 12) [h]

@[simp] theorem grantsOk_lineComplete (s : State) (m : Mode)
    (h : grantsOk s.budget) : grantsOk (s.lineComplete m).budget := by
  simp only [State.lineComplete]
  repeat' split
  all_goals simp (maxDischargeDepth := 12) [h]

@[simp] theorem grantsOk_complete (s : State) (m : Mode)
    (h : grantsOk s.budget) : grantsOk (s.complete m).budget := by
  simp only [State.complete]
  simp (maxDischargeDepth := 12) [h]

@[simp] theorem grantsOk_countLow (s : State) (h : grantsOk s.budget) : grantsOk (s.countLow).budget := by
  simp only [State.countLow]
  repeat' split
  all_goals simp (maxDischargeDepth := 12) [h]

@[simp] theorem grantsOk_midResync (s : State) (h : Bool)
    (hq : grantsOk s.budget) : grantsOk (s.midResync h).budget := by
  simp only [State.midResync]
  repeat' split
  all_goals simp (maxDischargeDepth := 12) [hq]

@[simp] theorem grantsOk_midFrame (s : State) (h : Bool)
    (hq : grantsOk s.budget) : grantsOk (s.midFrame h).budget := by
  simp only [State.midFrame]
  repeat' split
  all_goals simp (maxDischargeDepth := 12) [hq]

@[simp] theorem grantsOk_midSlots (s : State) (h : Bool)
    (hq : grantsOk s.budget) : grantsOk (s.midSlots h).budget := by
  simp only [State.midSlots]
  repeat' split
  all_goals simp (maxDischargeDepth := 12) [hq]

@[simp] theorem grantsOk_stopLow (s : State) (h : grantsOk s.budget) : grantsOk (s.stopLow).budget := by
  simp only [State.stopLow]
  repeat' split
  all_goals simp (maxDischargeDepth := 12) [h]

@[simp] theorem grantsOk_midStop (s : State) (h : Bool)
    (hq : grantsOk s.budget) : grantsOk (s.midStop h).budget := by
  simp only [State.midStop]
  repeat' split
  all_goals simp (maxDischargeDepth := 12) [hq]

@[simp] theorem grantsOk_samplePhase (s : State)
    (h : grantsOk s.budget) : grantsOk (s.samplePhase).budget := by
  simp only [State.samplePhase]
  repeat' split
  all_goals simp (maxDischargeDepth := 12) [h]

@[simp] theorem grantsOk_midSample (s : State) (h : grantsOk s.budget) : grantsOk (s.midSample).budget := by
  simp only [State.midSample]
  repeat' split
  all_goals simp (maxDischargeDepth := 12) [h]

@[simp] theorem grantsOk_tick (s : State) (h : grantsOk s.budget) : grantsOk (s.tick).budget := by
  simpa [State.tick, Budget.tick] using h

end Sys2Proof.Laws
end

