-- ==== Sys2Proof/Laws/LineOps.lean ====
section
/-!
SUPPORT. What each operation makes of the line engine, as one equation: the other blocks' frames are in
FrameRounds.lean.
-/

namespace Sys2Proof.Laws

open Sys2Proof.Machine

theorem clearView_line (s : State) : s.clearView.line = { s.line with layoverRead := false } := by
  simp only [State.clearView]; simp

/-- R21, with the clearing of the peer view (R61). -/
theorem enterLineDown_line (s : State) (c v n : Nat) :
    (s.enterLineDown c v n).line =
      { s.line.lost n with
        discards := 0, join := .lineDown, heard := 0, backoff := 0, layoverCount := 0,
        layoverRead := false } := by
  simp only [State.enterLineDown]; simp [clearView_line]

/-- A line fault gives the round up and leaves the station in LINE_DOWN (R21). -/
theorem lineFault_line (s : State) (c n : Nat) :
    (s.lineFault c n).line =
      if s.line.join = .lineDown then { s.line.lost n with discards := 0 }
      else { s.line.lost n with
        discards := 0, join := .lineDown, heard := 0, backoff := 0, layoverCount := 0,
        layoverRead := false } := by
  simp only [State.lineFault]; split <;> simp [enterLineDown_line]

/-- R16, R17. -/
theorem discard_line (s : State) (n : Nat) :
    (s.discard n).line =
      if s.line.discards + 1 < 3 then { s.line.lost n with discards := s.line.discards + 1 }
      else if s.line.join = .lineDown then { s.line.lost n with discards := 0 }
      else { s.line.lost n with
        discards := 0, join := .lineDown, heard := 0, backoff := 0, layoverCount := 0,
        layoverRead := false } := by
  simp only [State.discard]; repeat' split
  all_goals simp [enterLineDown_line]

/-- R37, R38. -/
theorem enterClashed_line (s : State) (k : Nat) :
    (s.enterClashed k).line =
      { s.line with
        pdDrv := false
        image := { s.line.image with sends := false }
        ownClashed := true
        join := .clashed
        backoff := 0 } := by
  simp only [State.enterClashed]; simp

/-- The line engine latches the image of the join state that the event settles (R8, R28, R35). -/
theorem startFrame_line (s : State) :
    s.startFrame.line =
      { s.line with join := s.joinAtStart }.latch
        (s.setLine { s.line with join := s.joinAtStart }).imageNow := by
  simp only [State.startFrame]; simp

/-- R5, R30, R37. -/
theorem slotEnd_line (s : State) (k : Nat) :
    (s.slotEnd k).line =
      if s.clashAt k (!s.pins.pdHigh) then
        { s.line.readSlot k (!s.pins.pdHigh) with
          pdDrv := false
          image := { s.line.image with sends := false }
          ownClashed := true
          join := .clashed
          backoff := 0 }
      else s.line.readSlot k (!s.pins.pdHigh) := by
  simp only [State.slotEnd]; split <;> simp [enterClashed_line, Line.readSlot]

/-- R178, R179: below a count of 2 only the count moves. -/
theorem layoverStep_awake (s : State) (r : RoundRecord)
    (h : layoverNext s.line.layoverCount r.marks ≠ 2) :
    s.layoverStep r = s.setLine { s.line with layoverCount := layoverNext s.line.layoverCount r.marks } := by
  simp only [State.layoverStep]; simp [h]

/-- R179. -/
theorem fallAsleep_line (s : State) :
    s.fallAsleep.line = { s.line.sleep with layoverRead := false } := by
  simp only [State.fallAsleep]; simp [clearView_line, Line.sleep]

/-- R181. -/
theorem wake_line (s : State) (own : Bool) :
    (s.wake own).line = s.line.wake s.pins s.port.settings.quietMs own := by
  simp only [State.wake]; simp

/-- A view update before its layover step leaves the line engine but for the layover read flag (R177). -/
theorem actUpdate_line (s : State) (r : RoundRecord) :
    ((s.evalUpdate r).actUpdate r).line = { s.line with layoverRead := r.marks.layover } := by
  simp only [State.evalUpdate]; simp [State.layoverFlag]

/-- R13, R33, R41. -/
theorem lineComplete_line (s : State) (m : Mode) :
    (s.lineComplete m).line = s.line.complete m s.port.settings.quietMs := by
  simp only [State.lineComplete]; split <;> simp

/-- R186. -/
theorem resetAwake_line (s : State) :
    s.resetAwake.line = s.line.stationReset s.port.settings.quietMs := by
  simp only [State.resetAwake]; simp [clearView_line, Line.stationReset, Line.reset]

end Sys2Proof.Laws
end

