-- ==== Sys2Proof/Laws/LineSteps.lean ====
section
/-!
SUPPORT. The line engine: every edge, sample, fault, completion and wake keeps its counters in their ranges
and its drive pins with the beat driver (R1, R2, R4 to R6, R14, R17).
-/

namespace Sys2Proof.Laws

open Sys2Proof.Machine

set_option linter.unusedSimpArgs false
set_option linter.unusedVariables false
set_option linter.unusedTactic false
set_option linter.unnecessarySeqFocus false

/-- The line engine's invariant, written out. -/
theorem lineOk_iff (l : Line) : lineOk l ↔
    (l.lowRun ≤ 9 ∧ l.highRun < 880 ∧ l.slotBeat ≤ 869 ∧ l.driveLeft ≤ 4 ∧ l.recBeat ≤ 2 ∧
      l.discards ≤ 2 ∧ l.heard ≤ 2 ∧ l.backoff ≤ 16 ∧ (l.join = .clashed → l.backoff < 16) ∧
      l.layoverCount ≤ 2) ∧
    ((l.phase = .slots → l.driveLeft = 0 ∧ l.recBeat = 0) ∧
      (l.recBeat = 1 → l.phase = .recovery ∧
        ((l.driver = .waitFall ∨ l.driver = .highHalf) ∨ l.driver = .stopped)) ∧
      (l.recBeat = 2 → l.phase = .recovery ∨
        (l.phase = .frame ∧ l.lowRun = 1 ∧ (l.driver = .waitFall ∨ l.driver = .highHalf)))) ∧
    ((l.pbDrv = true ↔ l.driver = .lowHalf) ∧
      (l.pdLift = true → l.pdDrv = false ∧ (l.driver = .lowHalf ∨ l.driver = .waitRise)) ∧
      (l.driver = .stopped → l.join = .asleep) ∧
      (l.join = .asleep →
        (l.driver = .stopped ∨ l.driver = .lowHalf) ∧ l.pdDrv = false ∧ l.pdLift = false)) :=
  Iff.rfl

theorem lineOk_lost (l : Line) (n : Nat) (hn : n ≤ 9) (h : lineOk l) (hs : l.join ≠ .asleep) (hs2 :
    l.driver ≠ .stopped) : lineOk (l.lost n) := by
  simp only [Line.lost]; (simp only [lineOk_iff, State.setLine, Config.stuckRun, Config.idleSamples,
      Config.lastSlotBeat, Config.startBeats, Config.backoffRounds] at * <;> grind)

theorem lineOk_lineFault (s : State) (c n : Nat) (hn : n ≤ 9) (h : lineOk s.line) (hs : s.line.join ≠
    .asleep) (hs2 : s.line.driver ≠ .stopped) : lineOk (s.lineFault c n).line := by
  rw [lineFault_line]; simp only [Line.lost]; split <;> (simp only [lineOk_iff, State.setLine,
      Config.stuckRun, Config.idleSamples, Config.lastSlotBeat, Config.startBeats, Config.backoffRounds]
      at * <;> grind)

theorem lineOk_discard (s : State) (n : Nat) (hn : n ≤ 9) (h : lineOk s.line) (hs : s.line.join ≠ .asleep)
    (hs2 : s.line.driver ≠ .stopped) : lineOk (s.discard n).line := by
  rw [discard_line]; simp only [Line.lost]; repeat' split
  all_goals (simp only [lineOk_iff, State.setLine, Config.stuckRun, Config.idleSamples,
      Config.lastSlotBeat, Config.startBeats, Config.backoffRounds] at * <;> grind)

theorem lineOk_wake (s : State) (b : Bool) (h : lineOk s.line) : lineOk (s.wake b).line := by
  rw [wake_line]; simp only [Line.wake, Line.reset, driverStart]; split <;> (simp only [lineOk_iff,
      State.setLine, Config.stuckRun, Config.idleSamples, Config.lastSlotBeat, Config.startBeats,
      Config.backoffRounds] at * <;> grind)

theorem lineOk_fallAsleep (s : State) (h : lineOk s.line) : lineOk s.fallAsleep.line := by
  rw [fallAsleep_line]; simp only [Line.sleep]; split <;> (simp only [lineOk_iff, State.setLine,
      Config.stuckRun, Config.idleSamples, Config.lastSlotBeat, Config.startBeats, Config.backoffRounds]
      at * <;> grind)

theorem lineOk_enterAsleep (s : State) (h : lineOk s.line) : lineOk s.enterAsleep.line := by
  simp only [State.enterAsleep]; split
  · exact lineOk_wake _ _ (lineOk_fallAsleep _ h)
  · exact lineOk_fallAsleep _ h

theorem layoverNext_le (n : Nat) (m : Marks) : layoverNext n m ≤ 2 := by
  simp only [layoverNext]; split <;> omega

theorem lineOk_layoverStep (s : State) (r : RoundRecord) (h : lineOk s.line) : lineOk (s.layoverStep
    r).line := by
  have := layoverNext_le s.line.layoverCount r.marks
  simp only [State.layoverStep]; split
  · apply lineOk_enterAsleep; (simp only [lineOk_iff, State.setLine, Config.stuckRun, Config.idleSamples,
      Config.lastSlotBeat, Config.startBeats, Config.backoffRounds] at * <;> grind)
  · (simp only [lineOk_iff, State.setLine, Config.stuckRun, Config.idleSamples, Config.lastSlotBeat,
      Config.startBeats, Config.backoffRounds] at * <;> grind)

theorem lineOk_ownCause (s : State)  (h : lineOk s.line) : lineOk s.ownCause.line := by
  simp only [State.ownCause]; split
  · exact lineOk_wake _ _ h
  · exact h

theorem lineOk_complete (s : State) (m : Mode) (h : lineOk s.line) (hs : s.line.driver = .highHalf)  :
    lineOk (s.complete m).line := by
  simp only [State.complete, State.viewUpdate]
  apply lineOk_layoverStep
  rw [actUpdate_line, lineComplete_line]
  simp only [Line.complete, Line.joinDone, Line.heardDone, Line.backoffDone]
  cases hj : s.line.join <;> (try split) <;> (simp only [lineOk_iff, State.setLine, Config.stuckRun,
      Config.idleSamples, Config.lastSlotBeat, Config.startBeats, Config.backoffRounds] at * <;> grind)

theorem lineOk_startFrame (s : State) (h : lineOk s.line) (hs : s.line.join ≠ .asleep) (hl : s.line.lowRun
    = 3) (hp : s.line.phase = .frame ∨ s.line.phase = .resync) (hq : s.line.recBeat = 0) (hd :
    s.line.driver = .highHalf): lineOk s.startFrame.line := by
  rw [startFrame_line]; simp only [Line.latch, State.joinAtStart]
  split <;> (simp only [lineOk_iff, State.setLine, Config.stuckRun, Config.idleSamples,
      Config.lastSlotBeat, Config.startBeats, Config.backoffRounds] at * <;> grind)

theorem lineOk_resyncHigh (l : Line) (h : lineOk l) (hs : l.join ≠ .asleep) (hp : l.phase = .resync) (hd :
    l.driver = .highHalf) : lineOk l.resyncHigh := by
  simp only [Line.resyncHigh]
  repeat' split
  all_goals (simp only [lineOk_iff, State.setLine, Config.stuckRun, Config.idleSamples,
      Config.lastSlotBeat, Config.startBeats, Config.backoffRounds] at * <;> grind)

theorem lineOk_countLow (s : State) (h : lineOk s.line) (hs : s.line.join ≠ .asleep) (hp : (s.line.phase =
    .frame ∨ s.line.phase = .resync) ∧ s.line.recBeat = 0) (hd : s.line.driver = .highHalf) : lineOk
    s.countLow.line := by
  simp only [State.countLow]
  repeat' split
  · apply lineOk_startFrame <;> (simp only [lineOk_iff, State.setLine, Config.stuckRun, Config.idleSamples,
      Config.lastSlotBeat, Config.startBeats, Config.backoffRounds] at * <;> grind)
  · apply lineOk_lineFault <;> (simp only [lineOk_iff, State.setLine, Config.stuckRun, Config.idleSamples,
      Config.lastSlotBeat, Config.startBeats, Config.backoffRounds] at * <;> grind)
  · (simp only [lineOk_iff, State.setLine, Config.stuckRun, Config.idleSamples, Config.lastSlotBeat,
      Config.startBeats, Config.backoffRounds] at * <;> grind)
  · (simp only [lineOk_iff, State.setLine, Config.stuckRun, Config.idleSamples, Config.lastSlotBeat,
      Config.startBeats, Config.backoffRounds] at * <;> grind)

theorem lineOk_midSample (s : State) (h : lineOk s.line) (hs : s.line.driver = .waitRise) : lineOk
    s.midSample.line := by
  have hj : s.line.join ≠ .asleep := by (simp only [lineOk_iff, State.setLine, Config.stuckRun,
      Config.idleSamples, Config.lastSlotBeat, Config.startBeats, Config.backoffRounds] at * <;> grind)
  have h1 : lineOk s.riseB.line := by simp only [State.riseB]; (simp only [lineOk_iff, State.setLine,
      Config.stuckRun, Config.idleSamples, Config.lastSlotBeat, Config.startBeats, Config.backoffRounds]
      at * <;> grind)
  have hd : s.riseB.line.driver = .highHalf := by simp [State.riseB]
  have hj1 : s.riseB.line.join ≠ .asleep := by simpa [State.riseB] using hj
  have hr : s.riseB.line.phase = .frame → s.riseB.line.recBeat = 0 := by
    simp only [State.riseB]; (simp only [lineOk_iff, State.setLine, Config.stuckRun, Config.idleSamples,
        Config.lastSlotBeat, Config.startBeats, Config.backoffRounds] at * <;> grind)
  have hr2 : s.riseB.line.recBeat ≠ 1 := by
    simp only [State.riseB]; (simp only [lineOk_iff, State.setLine, Config.stuckRun, Config.idleSamples,
        Config.lastSlotBeat, Config.startBeats, Config.backoffRounds] at * <;> grind)
  simp only [State.midSample]
  split
  · apply lineOk_lineFault <;> simp_all
  rename_i hf
  generalize s.riseB = u at *
  simp only [State.samplePhase]
  split
  · rename_i hp; simp only [State.midResync]
    repeat' split
    · simp; apply lineOk_resyncHigh <;> (simp only [lineOk_iff, State.setLine, Config.stuckRun,
        Config.idleSamples, Config.lastSlotBeat, Config.startBeats, Config.backoffRounds] at * <;> grind)
    · exact h1
    · simp; apply lineOk_resyncHigh <;> (simp only [lineOk_iff, State.setLine, Config.stuckRun,
        Config.idleSamples, Config.lastSlotBeat, Config.startBeats, Config.backoffRounds] at * <;> grind)
    · apply lineOk_countLow <;> (simp only [lineOk_iff, State.setLine, Config.stuckRun, Config.idleSamples,
        Config.lastSlotBeat, Config.startBeats, Config.backoffRounds] at * <;> grind)
  · rename_i hp; simp only [State.midIdle]; split
    · exact h1
    · (simp only [lineOk_iff, State.setLine, Config.stuckRun, Config.idleSamples, Config.lastSlotBeat,
        Config.startBeats, Config.backoffRounds] at * <;> grind)
  · rename_i hp; simp only [State.midFrame]; repeat' split
    · (simp only [lineOk_iff, State.setLine, Config.stuckRun, Config.idleSamples, Config.lastSlotBeat,
        Config.startBeats, Config.backoffRounds] at * <;> grind)
    · simp only [State.pressDrive, State.frameHigh] at *; split <;> (simp only [lineOk_iff, State.setLine,
        Config.stuckRun, Config.idleSamples, Config.lastSlotBeat, Config.startBeats, Config.backoffRounds]
        at * <;> grind)
    · apply lineOk_countLow <;> (simp only [lineOk_iff, State.setLine, Config.stuckRun, Config.idleSamples,
        Config.lastSlotBeat, Config.startBeats, Config.backoffRounds] at * <;> grind)
  · rename_i hp; simp only [State.midSlots]; split
    · simp only [State.pressDrive]; split <;> (simp only [lineOk_iff, State.setLine, Config.stuckRun,
        Config.idleSamples, Config.lastSlotBeat, Config.startBeats, Config.backoffRounds] at * <;> grind)
    · apply lineOk_discard <;> (simp only [lineOk_iff, State.setLine, Config.stuckRun, Config.idleSamples,
        Config.lastSlotBeat, Config.startBeats, Config.backoffRounds] at * <;> grind)
  · rename_i hp; simp only [State.midStop, State.stopLow]; repeat' split
    · apply lineOk_discard <;> (simp only [lineOk_iff, State.setLine, Config.stuckRun, Config.idleSamples,
        Config.lastSlotBeat, Config.startBeats, Config.backoffRounds] at * <;> grind)
    · apply lineOk_complete <;> (simp only [lineOk_iff, State.setLine, Config.stuckRun, Config.idleSamples,
        Config.lastSlotBeat, Config.startBeats, Config.backoffRounds] at * <;> grind)
    · (simp only [lineOk_iff, State.setLine, Config.stuckRun, Config.idleSamples, Config.lastSlotBeat,
        Config.startBeats, Config.backoffRounds] at * <;> grind)
    · apply lineOk_lineFault <;> (simp only [lineOk_iff, State.setLine, Config.stuckRun,
        Config.idleSamples, Config.lastSlotBeat, Config.startBeats, Config.backoffRounds] at * <;> grind)
  · rename_i hp; simp only [State.midIdle]; split
    · exact h1
    · (simp only [lineOk_iff, State.setLine, Config.stuckRun, Config.idleSamples, Config.lastSlotBeat,
        Config.startBeats, Config.backoffRounds] at * <;> grind)

theorem lineOk_slotEnd (s : State) (k : Nat) (h : lineOk s.line) (hs : s.line.join ≠ .asleep) (hd :
    s.line.driver ≠ .stopped): lineOk (s.slotEnd k).line := by
  rw [slotEnd_line]; simp only [Line.readSlot]; split <;> (simp only [lineOk_iff, State.setLine,
      Config.stuckRun, Config.idleSamples, Config.lastSlotBeat, Config.startBeats, Config.backoffRounds]
      at * <;> grind)

theorem stopTest_line (s : State) : s.stopTest.line =
    (if s.line.takesPart then
      ({ s.line with phase := .stop, lowRun := 0 } : Line).drive (if s.stretchReason then 3 else 2)
    else { s.line with phase := .stop, lowRun := 0 }) := by
  simp only [State.stopTest]; split <;> simp

theorem slotAdvance_line (s : State) : s.slotAdvance.line =
    (if s.line.phase = .slots then
      (if s.line.slotBeat < Config.lastSlotBeat then { s.line with slotBeat := s.line.slotBeat + 1 }
      else s.stopTest.line)
    else s.line) := by
  simp only [State.slotAdvance]; repeat' split
  all_goals simp

/-- The line engine between PACE-B's fall and the end of the edge's processing (R2, R5). -/
def preEdge (l : Line) : Prop := countsOk l ∧
   (l.phase = .slots → l.driveLeft = 0 ∧ l.recBeat = 0) ∧
    (l.recBeat = 1 → l.phase = .recovery) ∧
    (l.recBeat = 2 → l.phase = .recovery ∨ (l.phase = .frame ∧ l.lowRun = 1)) ∧ l.driver = .lowHalf ∧
        l.pbDrv = true ∧ l.join ≠ .asleep

theorem setLine_line' (s : State) (l : Line) : (s.setLine l).line = l := rfl

theorem lineOk_edgeDrives (s : State) (h : preEdge s.line) (hl : s.line.pdLift = true → s.line.phase =
    .slots ∧ s.line.slotBeat % 3 = 0) : lineOk s.edgeDrives.line := by
  simp only [State.edgeDrives]
  have h2 : preEdge (s.setLine s.line.driveStep).slotAdvance.line ∧ ((s.setLine
      s.line.driveStep).slotAdvance.line.pdLift = true → (s.setLine
      s.line.driveStep).slotAdvance.line.pdDrv = false  ∧ (s.setLine
      s.line.driveStep).slotAdvance.line.phase = .slots) := by
    rw [slotAdvance_line, stopTest_line]
    simp only [Line.driveStep, Line.drive, State.setLine, preEdge, countsOk] at *
    repeat' split
    all_goals grind [Config.lastSlotBeat, Config.startBeats, Config.stuckRun]
  have h3 : ∀ u : State, preEdge u.line → (u.line.pdLift = true → u.line.pdDrv = false ∧ u.line.phase =
      .slots) → lineOk (u.setLine u.line.recoveryStep).startTest.line := by
    intro u h3 h4
    simp only [State.startTest]
    split
    · rename_i hm
      simp only [State.mayStart, setLine_line'] at hm
      simp only [State.mayStart, Line.recoveryStep, Line.recoveryEnd, Line.drive, setLine_line', preEdge,
          lineOk, countsOk, frameOk, drivePinsOk, Driver.sampled, Config.startBeats, Config.stuckRun,
          Config.idleSamples, Config.lastSlotBeat, Config.backoffRounds] at *
      repeat' split at hm
      all_goals repeat' split
      all_goals simp_all
      all_goals grind
    · simp only [Line.recoveryStep, Line.recoveryEnd, Line.drive, setLine_line', preEdge, lineOk, countsOk,
        frameOk, drivePinsOk, Driver.sampled, Config.startBeats, Config.stuckRun, Config.idleSamples,
        Config.lastSlotBeat, Config.backoffRounds] at *
      repeat' split
      all_goals grind
  exact h3 _ h2.1 h2.2

theorem lineOk_fallingEdge (s : State) (h : lineOk s.line) (hs : s.line.edgeDue = true) : lineOk
    s.fallingEdge.line := by
  have hd : s.line.driver = .waitFall ∨ s.line.driver = .highHalf := by simpa [Line.edgeDue] using hs
  simp only [State.fallingEdge]
  split
  · rw [lineFault_line]
    by_cases hj : s.line.join = .lineDown <;> simp [State.assertB, hj, Line.lost] <;> (simp only
        [lineOk_iff, State.setLine, Config.stuckRun, Config.idleSamples, Config.lastSlotBeat,
        Config.startBeats, Config.backoffRounds] at * <;> grind)
  · rename_i hp
    have h1 : preEdge s.assertB.line ∧ s.assertB.line.pdLift = false := by
      simp only [State.assertB, preEdge, countsOk]; (simp only [lineOk_iff, State.setLine, Config.stuckRun,
          Config.idleSamples, Config.lastSlotBeat, Config.startBeats, Config.backoffRounds] at * <;> grind)
    generalize s.assertB = u at *
    apply lineOk_edgeDrives
    · simp only [State.endSample]; split
      · rw [slotEnd_line]; split <;> simp [preEdge, countsOk, Line.readSlot, Config.stuckRun,
          Config.idleSamples, Config.lastSlotBeat, Config.startBeats, Config.backoffRounds] at * <;> grind
      · simp [preEdge, countsOk, Line.readSlot] at * ; grind
    · simp only [State.endSample]; split
      · rename_i hb; rw [slotEnd_line]; split <;> simp [Line.readSlot, Line.pressBeat, isPress] at hb ⊢ <;>
          grind
      · simp [Line.pressBeat, isPress] at *; grind

theorem lineOk_lowHalfEnd (s : State) (h : lineOk s.line) (hs : s.line.driver = .lowHalf) : lineOk
    s.lowHalfEnd.line := by
  simp only [State.lowHalfEnd]
  split
  · (simp only [lineOk_iff, State.setLine, Config.stuckRun, Config.idleSamples, Config.lastSlotBeat,
      Config.startBeats, Config.backoffRounds] at * <;> grind)
  · split
    · rw [lineFault_line]; simp only [Line.lost]; split <;> (simp only [lineOk_iff, State.setLine,
        Config.stuckRun, Config.idleSamples, Config.lastSlotBeat, Config.startBeats, Config.backoffRounds]
        at * <;> grind)
    · simp only [State.setLine] at *; (simp only [lineOk_iff, State.setLine, Config.stuckRun,
        Config.idleSamples, Config.lastSlotBeat, Config.startBeats, Config.backoffRounds] at * <;> grind)

theorem lineOk_resetAwake (s : State) (h : lineOk s.line) (hs : s.line.join ≠ .asleep) : lineOk
    s.resetAwake.line := by
  rw [resetAwake_line]; simp only [Line.stationReset, Line.reset]; (simp only [lineOk_iff, State.setLine,
      Config.stuckRun, Config.idleSamples, Config.lastSlotBeat, Config.startBeats, Config.backoffRounds]
      at * <;> grind)

theorem ownCause_awake (s : State) : s.ownCause.line.join ≠ .asleep := by
  simp only [State.ownCause]; split
  · simp [wake_line, Line.wake, Line.reset]
  · assumption

theorem lineOk_stationReset (s : State) (h : lineOk s.line) : lineOk s.stationReset.line := by
  simp only [State.stationReset]; exact lineOk_resetAwake _ (lineOk_ownCause _ h) (ownCause_awake _)

theorem lineOk_slowDetect (s : State) (h : lineOk s.line) : lineOk s.slowDetect.line := by
  simp only [State.slowDetect]; split
  · exact lineOk_wake _ _ h
  · exact h

end Sys2Proof.Laws
end

