-- ==== Sys2Proof/Laws/PolesOps.lean ====
section
/-!
SUPPORT. The pole records: what a move keeps, and that every operation that reaches pole watch keeps the
records and ARC_CUT well formed (R78, R91, R94, R101, R102).
-/

namespace Sys2Proof.Laws

open Sys2Proof.Machine

set_option linter.unusedSimpArgs false
set_option linter.unusedVariables false
set_option linter.unusedTactic false

theorem polesOk_movePole (s : State) (w : PoleName) (n : PoleState) (st : Nat) (h : polesOk s.pole) (hn :
    poleFieldsOk n) (hd : ∀ c, n = .retrieved c → (s.pole.record w).droppedOpen = true) : polesOk
    (s.movePole w n st).pole := by
  cases w <;> cases n <;> simp [State.movePole, State.assertArcCut, polesOk, poleRecOk, PoleWatch.record,
      PoleWatch.setRec, PoleRec.enter, PoleState.isDown] at * <;> (try split) <;> simp_all

@[simp] theorem polesOk_lowerGap (s : State) (w : PoleName) (st : Nat) (h : polesOk s.pole) : polesOk
    (s.lowerGap w st).pole := by
  simp only [State.lowerGap]; split
  · apply polesOk_movePole _ _ _ _ h <;> simp [poleFieldsOk]
  · exact h

theorem poleNext_fields (p : PoleState) (z : Zone) (lv lo : Bool) (rw al : Nat) (h : poleFieldsOk p) (hr :
    1 ≤ rw ∧ rw ≤ 1000) (ha : 20 ≤ al ∧ al ≤ 1500) : poleFieldsOk (poleNext p z lv lo rw al) := by
  cases p <;> cases z <;> simp [poleNext] <;> repeat' split
  all_goals simp_all [poleFieldsOk]
  all_goals omega

theorem gapAllowance_range (a b c : Nat) : 20 ≤ gapAllowance a b c ∧ gapAllowance a b c ≤ 1500 := by
  simp only [gapAllowance, clamp]; split <;> omega

theorem poleNext_retrieved (p : PoleState) (z : Zone) (lv lo : Bool) (rw al : Nat) (c) (h : poleNext p z lv
    lo rw al = .retrieved c) : p.isDown = true := by
  cases p <;> cases z <;> simp [poleNext, PoleState.isDown] at * <;> (try split at h) <;> simp_all
  all_goals (try split at h)
  all_goals simp_all

theorem polesOk_evalPole (s : State) (w : PoleName) (z : Zone) (l : Bool) (hs : settingsOk s.port.settings)
    (h : polesOk s.pole) : polesOk (s.evalPole w z l).pole := by
  simp only [State.evalPole]
  have hf : poleRecOk (s.pole.record w) := by cases w; exact h.1; exact h.2.1
  generalize hn : poleNext (s.pole.record w).st z l s.pole.lowerHeard s.port.settings.rewireMs
      (gapAllowance s.port.settings.sectionDm s.port.settings.gapGuard s.pole.heldSpeed) = n
  have h1 : polesOk (if n = (s.pole.record w).st then s else s.movePole w n s.countStamp).pole := by
    split
    · exact h
    · apply polesOk_movePole _ _ _ _ h
      · rw [← hn]; apply poleNext_fields _ _ _ _ _ _ hf.1
        · simp only [settingsOk, poleSettingsOk] at hs; omega
        · apply gapAllowance_range
      · intro c hc; apply hf.2; rw [hc] at hn; exact poleNext_retrieved _ _ _ _ _ _ _ hn
  have h2 : ((if n = (s.pole.record w).st then s else s.movePole w n s.countStamp).pole.record w).st = n :=
      by
    split
    · simp_all
    · cases w <;> cases n <;> simp [State.movePole, State.assertArcCut, PoleWatch.record, PoleWatch.setRec,
        PoleRec.enter] <;> (try split) <;> simp
  split
  · rename_i hl
    generalize (if n = (s.pole.record w).st then s else s.movePole w n s.countStamp) = u at *
    obtain ⟨hl, _⟩ := hl; subst hl
    cases w <;> simp [State.clearDroppedOpen, polesOk, poleRecOk, PoleWatch.record, PoleWatch.setRec, h2,
        PoleState.isDown] at * <;> grind [PoleState.isDown]
  · exact h1

@[simp] theorem polesOk_releaseArcCut (s : State) (st : Nat)
    (h : polesOk s.pole) : polesOk (s.releaseArcCut st).pole := by
  simp only [State.releaseArcCut]
  repeat' split
  all_goals first | (simp (maxDischargeDepth := 12) [h]; done) | (simp [polesOk, poleRecOk,
      PoleWatch.clearHeard, PoleWatch.clearAckable, PoleWatch.record, PoleWatch.setRec] at *; grind)

@[simp] theorem polesOk_ackPole (s : State) (w : PoleName) (st : Nat)
    (h : polesOk s.pole) : polesOk (s.ackPole w st).pole := by
  cases w <;> simp only [State.ackPole] <;> split <;> simp [polesOk, poleRecOk, PoleWatch.record,
      PoleWatch.setRec] at * <;> grind

@[simp] theorem polesOk_poleUpdate (s : State) (r : RoundRecord)
    (h : polesOk s.pole) : polesOk (s.poleUpdate r).pole := by
  simp only [State.poleUpdate]
  repeat' split
  all_goals repeat (first | apply polesOk_ackPole | apply polesOk_lowerGap)
  all_goals simpa [polesOk] using h

@[simp] theorem polesOk_poleStart (s : State) (h : polesOk s.pole) : polesOk (s.poleStart).pole := by
  simp only [State.poleStart]
  repeat' split
  all_goals first | (simp (maxDischargeDepth := 12) [h]; done) | (simp [polesOk, poleRecOk,
      PoleWatch.clearHeard, PoleWatch.clearAckable, PoleWatch.record, PoleWatch.setRec] at *; grind)

@[simp] theorem polesOk_clearView (s : State) (h : polesOk s.pole) : polesOk (s.clearView).pole := by
  simp only [State.clearView]
  repeat' split
  all_goals first | (simp (maxDischargeDepth := 12) [h]; done) | (simp [polesOk, poleRecOk,
      PoleWatch.clearHeard, PoleWatch.clearAckable, PoleWatch.record, PoleWatch.setRec] at *; grind)

@[simp] theorem polesOk_enterLineDown (s : State) (c v n : Nat)
    (h : polesOk s.pole) : polesOk (s.enterLineDown c v n).pole := by
  simp only [State.enterLineDown]
  simp (maxDischargeDepth := 12) [h]

@[simp] theorem polesOk_lineFault (s : State) (c n : Nat)
    (h : polesOk s.pole) : polesOk (s.lineFault c n).pole := by
  simp only [State.lineFault]
  repeat' split
  all_goals simp (maxDischargeDepth := 12) [h]

@[simp] theorem polesOk_discard (s : State) (n : Nat)
    (h : polesOk s.pole) : polesOk (s.discard n).pole := by
  simp only [State.discard]
  repeat' split
  all_goals simp (maxDischargeDepth := 12) [h]

@[simp] theorem polesOk_startFrame (s : State) (h : polesOk s.pole) : polesOk (s.startFrame).pole := by
  simp only [State.startFrame]
  simp (maxDischargeDepth := 12) [h]

@[simp] theorem polesOk_fallingEdge (s : State) (h : polesOk s.pole) : polesOk (s.fallingEdge).pole := by
  simp only [State.fallingEdge]
  repeat' split
  all_goals simp (maxDischargeDepth := 12) [h]

@[simp] theorem polesOk_lowHalfEnd (s : State) (h : polesOk s.pole) : polesOk (s.lowHalfEnd).pole := by
  simp only [State.lowHalfEnd]
  repeat' split
  all_goals simp (maxDischargeDepth := 12) [h]

@[simp] theorem polesOk_sleepPole (s : State) (h : polesOk s.pole) : polesOk (s.sleepPole).pole := by
  simp only [State.sleepPole]
  repeat' split
  all_goals first | (simp (maxDischargeDepth := 12) [h]; done) | (simp [polesOk, poleRecOk,
      PoleWatch.clearHeard, PoleWatch.clearAckable, PoleWatch.record, PoleWatch.setRec] at *; grind)

@[simp] theorem polesOk_fallAsleep (s : State) (h : polesOk s.pole) : polesOk (s.fallAsleep).pole := by
  simp only [State.fallAsleep]
  simp (maxDischargeDepth := 12) [h]

@[simp] theorem polesOk_enterAsleep (s : State) (h : polesOk s.pole) : polesOk (s.enterAsleep).pole := by
  simp only [State.enterAsleep]
  repeat' split
  all_goals simp (maxDischargeDepth := 12) [h]

@[simp] theorem polesOk_resetPole (s : State) (h : polesOk s.pole) : polesOk (s.resetPole).pole := by
  simp only [State.resetPole]
  repeat' split
  all_goals first | (simp (maxDischargeDepth := 12) [h]; done) | (simp [polesOk, poleRecOk,
      PoleWatch.clearHeard, PoleWatch.clearAckable, PoleWatch.record, PoleWatch.setRec] at *; grind)

@[simp] theorem polesOk_resetAwake (s : State) (h : polesOk s.pole) : polesOk (s.resetAwake).pole := by
  simp only [State.resetAwake]
  repeat' split
  all_goals simp (maxDischargeDepth := 12) [h]

@[simp] theorem polesOk_stationReset (s : State) (h : polesOk s.pole) : polesOk (s.stationReset).pole := by
  simp only [State.stationReset]
  simp (maxDischargeDepth := 12) [h]

@[simp] theorem polesOk_layoverStep (s : State) (r : RoundRecord)
    (h : polesOk s.pole) : polesOk (s.layoverStep r).pole := by
  simp only [State.layoverStep]
  repeat' split
  all_goals simp (maxDischargeDepth := 12) [h]

@[simp] theorem polesOk_actUpdate (s : State) (r : RoundRecord)
    (h : polesOk s.pole) : polesOk (s.actUpdate r).pole := by
  simp only [State.actUpdate]
  simp (maxDischargeDepth := 12) [h]

@[simp] theorem polesOk_viewUpdate (s : State) (r : RoundRecord)
    (h : polesOk s.pole) : polesOk (s.viewUpdate r).pole := by
  simp only [State.viewUpdate]
  simp (maxDischargeDepth := 12) [h]

@[simp] theorem polesOk_complete (s : State) (m : Mode)
    (h : polesOk s.pole) : polesOk (s.complete m).pole := by
  simp only [State.complete]
  simp (maxDischargeDepth := 12) [h]

@[simp] theorem polesOk_countLow (s : State) (h : polesOk s.pole) : polesOk (s.countLow).pole := by
  simp only [State.countLow]
  repeat' split
  all_goals simp (maxDischargeDepth := 12) [h]

@[simp] theorem polesOk_midResync (s : State) (h : Bool)
    (hq : polesOk s.pole) : polesOk (s.midResync h).pole := by
  simp only [State.midResync]
  repeat' split
  all_goals simp (maxDischargeDepth := 12) [hq]

@[simp] theorem polesOk_midFrame (s : State) (h : Bool)
    (hq : polesOk s.pole) : polesOk (s.midFrame h).pole := by
  simp only [State.midFrame]
  repeat' split
  all_goals simp (maxDischargeDepth := 12) [hq]

@[simp] theorem polesOk_midSlots (s : State) (h : Bool)
    (hq : polesOk s.pole) : polesOk (s.midSlots h).pole := by
  simp only [State.midSlots]
  repeat' split
  all_goals simp (maxDischargeDepth := 12) [hq]

@[simp] theorem polesOk_stopLow (s : State) (h : polesOk s.pole) : polesOk (s.stopLow).pole := by
  simp only [State.stopLow]
  repeat' split
  all_goals simp (maxDischargeDepth := 12) [h]

@[simp] theorem polesOk_midStop (s : State) (h : Bool)
    (hq : polesOk s.pole) : polesOk (s.midStop h).pole := by
  simp only [State.midStop]
  repeat' split
  all_goals simp (maxDischargeDepth := 12) [hq]

@[simp] theorem polesOk_samplePhase (s : State) (h : polesOk s.pole) : polesOk (s.samplePhase).pole := by
  simp only [State.samplePhase]
  repeat' split
  all_goals simp (maxDischargeDepth := 12) [h]

@[simp] theorem polesOk_midSample (s : State) (h : polesOk s.pole) : polesOk (s.midSample).pole := by
  simp only [State.midSample]
  repeat' split
  all_goals simp (maxDischargeDepth := 12) [h]

theorem polesOk_polePass (s : State) (hs : settingsOk s.port.settings) (h : polesOk s.pole) : polesOk
    s.polePass.pole := by
  simp only [State.polePass]; split
  · apply polesOk_releaseArcCut
    apply polesOk_evalPole
    · simpa using hs
    apply polesOk_evalPole
    · simpa using hs
    · simpa [polesOk] using h
  · exact h

end Sys2Proof.Laws
end

