-- ==== Sys2Proof/Laws/Queue.lean ====
section
/-!
SUPPORT. The notice queue: what one notice can do to it, and the fields of the port its invariant rests on.
-/

namespace Sys2Proof.Laws

open Sys2Proof.Machine

/-- The queue's invariant rests on three fields of the port. -/
theorem queueOk_of_eq {p q : Port} (hq : q.queue = p.queue) (hl : q.headLatched = p.headLatched)
    (hb : q.byteIdx = p.byteIdx) (h : queueOk p) : queueOk q := by
  simpa [queueOk, unlatchedCount, Port.unlatched, hq, hl, hb] using h

theorem replaceKind_length (n : Notice) (l : List Notice) : (replaceKind n l).length = l.length := by
  induction l with
  | nil => rfl
  | cons m r ih => simp only [replaceKind]; split <;> simp [ih]

theorem replaceKind_countP (n : Notice) (k : NoticeKind) (l : List Notice) :
    (replaceKind n l).countP (fun m => m.kind == k) = l.countP (fun m => m.kind == k) := by
  induction l with
  | nil => rfl
  | cons m r ih =>
    simp only [replaceKind]
    split
    · rename_i h; simp [List.countP_cons, h]
    · simp [List.countP_cons, ih]

theorem latchedHead_append_unlatched (p : Port) : p.latchedHead ++ p.unlatched = p.queue := by
  unfold Port.latchedHead Port.unlatched
  split
  · exact List.take_append_drop 1 p.queue
  · simp

/-- A notice appended to a queue is not latched unless it becomes the head (R187). -/
theorem unlatched_append (p : Port) (n : Notice) (h : p.headLatched = true → p.queue ≠ []) :
    ({ p with queue := p.queue ++ [n] } : Port).unlatched = p.unlatched ++ [n] := by
  unfold Port.unlatched
  by_cases hl : p.headLatched = true
  · obtain ⟨a, r, hq⟩ := List.exists_cons_of_ne_nil (h hl)
    simp [hl, hq]
  · simp [hl]

/-- The unlatched part after a replacement in place (R187). -/
theorem unlatched_replace (p : Port) (n : Notice) (h : p.headLatched = true → p.queue ≠ []) :
    ({ p with queue := p.latchedHead ++ replaceKind n p.unlatched } : Port).unlatched =
      replaceKind n p.unlatched := by
  by_cases hl : p.headLatched = true
  · obtain ⟨a, r, hq⟩ := List.exists_cons_of_ne_nil (h hl)
    simp [Port.unlatched, Port.latchedHead, hl, hq]
  · simp [Port.unlatched, Port.latchedHead, hl]

/-- A notice keeps the queue's invariant, whether it coalesces, is appended or is lost (R187). -/
theorem queueOk_enqueue (p : Port) (n : Notice) (h : queueOk p) : queueOk (p.enqueue n) := by
  obtain ⟨h1, h2, h3, h4, h5, h6⟩ := h
  unfold Port.enqueue
  split
  · rename_i hc
    refine ⟨?_, ?_, ?_, h4, ?_, h6⟩
    · have := congrArg List.length (latchedHead_append_unlatched p)
      simp only [List.length_append, replaceKind_length] at this ⊢
      omega
    · simpa [unlatchedCount, unlatched_replace p n h5, replaceKind_countP] using h2
    · simpa [unlatchedCount, unlatched_replace p n h5, replaceKind_countP] using h3
    · intro hl
      have hl' : p.headLatched = true := hl
      simp [Port.latchedHead, hl', h5 hl']
  · split
    · rename_i hc hlen
      refine ⟨by simpa using hlen, ?_, ?_, h4, by simp, h6⟩
      · simp only [unlatchedCount, unlatched_append p n h5, List.countP_append]
        by_cases hk : n.kind = .grant
        · have : p.unlatched.countP (fun m => m.kind == .grant) = 0 := by
            simpa [hk, NoticeKind.coalesces, List.countP_eq_zero] using hc
          simp [this, hk]
        · simpa [hk, unlatchedCount] using h2
      · simp only [unlatchedCount, unlatched_append p n h5, List.countP_append]
        by_cases hk : n.kind = .ceiling
        · have : p.unlatched.countP (fun m => m.kind == .ceiling) = 0 := by
            simpa [hk, NoticeKind.coalesces, List.countP_eq_zero] using hc
          simp [this, hk]
        · simpa [hk, unlatchedCount] using h3
    · exact ⟨h1, h2, h3, h4, h5, h6⟩

/-- A block's notice keeps the queue's invariant (R187). -/
@[simp] theorem queueOk_notify (s : State) (k : NoticeKind) (a v st : Nat) (h : queueOk s.port) :
    queueOk (s.notify k a v st).port := queueOk_enqueue _ _ h

/-- Several notices keep the queue's invariant. -/
@[simp] theorem queueOk_notifyAll (s : State) (k : NoticeKind) (st : Nat) (l : List (Nat × Nat))
    (h : queueOk s.port) : queueOk (s.notifyAll k st l).port := by
  induction l generalizing s with
  | nil => exact h
  | cons x r ih => exact ih _ (queueOk_notify _ _ _ _ _ h)

end Sys2Proof.Laws
end

