-- ==== Sys2Proof/Laws/QueueOps.lean ====
section
/-!
SUPPORT. Every operation keeps the queue's invariant (R187): one lemma each.
-/

namespace Sys2Proof.Laws

open Sys2Proof.Machine

/-- A port that differs only in fields the queue's invariant does not read. -/
@[simp] theorem queueOk_flags (p : Port) (cd rf lo up lk : Bool) (k : Option Intake) (so : ReadSource)
    (sn : List Byte) (sp : Nat) (sl : Option (BitVec 16)) (d : Byte) (dm rv : Nat) (t : Settings) :
    queueOk ⟨cd, rf, lo, up, lk, k, p.queue, p.headLatched, p.byteIdx, so, sn, sp, sl, d, dm, rv, t⟩ ↔
      queueOk p := Iff.rfl

@[simp] theorem queueOk_setLineUp (s : State) (b : Bool)
    (h : queueOk s.port) : queueOk (s.setLineUp b).port := by
  simp only [State.setLineUp]
  simp (maxDischargeDepth := 12) [h]

@[simp] theorem queueOk_refuse (s : State) (h : queueOk s.port) : queueOk (s.refuse).port := by
  simp only [State.refuse]
  simp (maxDischargeDepth := 12) [h]

@[simp] theorem queueOk_moveFeeder (s : State) (i : Fin 8) (d : FeederState) (c st : Nat)
    (h : queueOk s.port) : queueOk (s.moveFeeder i d c st).port := by
  simp only [State.moveFeeder]
  simp (maxDischargeDepth := 12) [h]

@[simp] theorem queueOk_shedLoop (s : State) (fuel g st : Nat)
    (h : queueOk s.port) : queueOk (State.shedLoop fuel g st s).port := by
  induction fuel generalizing s with
  | zero => simpa [State.shedLoop] using h
  | succ k ih =>
    simp only [State.shedLoop]
    repeat' split
    all_goals simp [ih, h]

@[simp] theorem queueOk_shedToGrant (s : State) (st : Nat)
    (h : queueOk s.port) : queueOk (s.shedToGrant st).port := by
  simp only [State.shedToGrant]
  repeat' split
  all_goals simp (maxDischargeDepth := 12) [h]

@[simp] theorem queueOk_deenergize (s : State) (l : List (Fin 8)) (c st : Nat)
    (h : queueOk s.port) : queueOk (State.deenergize l c st s).port := by
  induction l generalizing s with
  | nil => simpa [State.deenergize] using h
  | cons i r ih =>
    simp only [State.deenergize]
    apply ih
    split <;> simp [h]

@[simp] theorem queueOk_comfortCut (s : State) (st : Nat)
    (h : queueOk s.port) : queueOk (s.comfortCut st).port := by
  simp only [State.comfortCut]
  repeat' split
  all_goals simp (maxDischargeDepth := 12) [h]

@[simp] theorem queueOk_overdrawShed (s : State) (st : Nat)
    (h : queueOk s.port) : queueOk (s.overdrawShed st).port := by
  simp only [State.overdrawShed]
  repeat' split
  all_goals simp (maxDischargeDepth := 12) [h]

@[simp] theorem queueOk_feederBack (s : State) (i : Option (Fin 8)) (st : Nat)
    (h : queueOk s.port) : queueOk (s.feederBack i st).port := by
  simp only [State.feederBack]
  repeat' split
  all_goals simp (maxDischargeDepth := 12) [h]

@[simp] theorem queueOk_feederWindow (s : State) (e : WindowEvent) (st : Nat)
    (h : queueOk s.port) : queueOk (s.feederWindow e st).port := by
  simp only [State.feederWindow]
  repeat' split
  all_goals simp (maxDischargeDepth := 12) [h]

@[simp] theorem queueOk_feederUpdate (s : State) (r : RoundRecord) (e : WindowEvent)
    (h : queueOk s.port) : queueOk (s.feederUpdate r e).port := by
  simp only [State.feederUpdate]
  repeat' split
  all_goals simp (maxDischargeDepth := 12) [h]

@[simp] theorem queueOk_limpRestart (s : State) (st : Nat)
    (h : queueOk s.port) : queueOk (s.limpRestart st).port := by
  simp only [State.limpRestart]
  repeat' split
  all_goals simp (maxDischargeDepth := 12) [h]

@[simp] theorem queueOk_feederLimp (s : State) (b : Bool)
    (h : queueOk s.port) : queueOk (s.feederLimp b).port := by
  simp only [State.feederLimp]
  repeat' split
  all_goals simp (maxDischargeDepth := 12) [h]

@[simp] theorem queueOk_feederClear (s : State) (h : queueOk s.port) : queueOk (s.feederClear).port := by
  simp only [State.feederClear]
  repeat' split
  all_goals simp (maxDischargeDepth := 12) [h]

@[simp] theorem queueOk_grantNotice (s : State) (b a st : Nat)
    (h : queueOk s.port) : queueOk (s.grantNotice b a st).port := by
  simp only [State.grantNotice]
  repeat' split
  all_goals simp (maxDischargeDepth := 12) [h]

@[simp] theorem queueOk_budgetUpdate (s : State) (r : RoundRecord)
    (h : queueOk s.port) : queueOk (s.budgetUpdate r).port := by
  simp only [State.budgetUpdate]
  repeat' split
  all_goals simp (maxDischargeDepth := 12) [h]

@[simp] theorem queueOk_limpEvaluate (s : State) (h : queueOk s.port) : queueOk (s.limpEvaluate).port := by
  simp only [State.limpEvaluate]
  simp (maxDischargeDepth := 12) [h]

@[simp] theorem queueOk_putCeil (s : State) (c : Ceil) (st : Nat)
    (h : queueOk s.port) : queueOk (s.putCeil c st).port := by
  simp only [State.putCeil]
  repeat' split
  all_goals simp (maxDischargeDepth := 12) [h]

@[simp] theorem queueOk_ceilingUpdate (s : State) (r : RoundRecord) (e : WindowEvent)
    (h : queueOk s.port) : queueOk (s.ceilingUpdate r e).port := by
  simp only [State.ceilingUpdate]
  repeat' split
  all_goals simp (maxDischargeDepth := 12) [h]

@[simp] theorem queueOk_ceilingLimp (s : State) (h : queueOk s.port) : queueOk (s.ceilingLimp).port := by
  simp only [State.ceilingLimp]
  repeat' split
  all_goals simp (maxDischargeDepth := 12) [h]

@[simp] theorem queueOk_ceilingLimpEntry (s : State)
    (h : queueOk s.port) : queueOk (s.ceilingLimpEntry).port := by
  simp only [State.ceilingLimpEntry]
  repeat' split
  all_goals simp (maxDischargeDepth := 12) [h]

@[simp] theorem queueOk_ceilingCutNow (s : State)
    (h : queueOk s.port) : queueOk (s.ceilingCutNow).port := by
  simp only [State.ceilingCutNow]
  repeat' split
  all_goals simp (maxDischargeDepth := 12) [h]

@[simp] theorem queueOk_windowNotice (s : State) (b : Holder) (n : Option (Nat × Nat)) (st : Nat)
    (h : queueOk s.port) : queueOk (s.windowNotice b n st).port := by
  simp only [State.windowNotice]
  repeat' split
  all_goals simp (maxDischargeDepth := 12) [h]

@[simp] theorem queueOk_arbUpdate (s : State) (r : RoundRecord)
    (h : queueOk s.port) : queueOk (s.arbUpdate r).port := by
  simp only [State.arbUpdate]
  simp (maxDischargeDepth := 12) [h]

@[simp] theorem queueOk_dropWindow (s : State) (h : queueOk s.port) : queueOk (s.dropWindow).port := by
  simp only [State.dropWindow]
  repeat' split
  all_goals simp (maxDischargeDepth := 12) [h]

@[simp] theorem queueOk_endByDisable (s : State) (h : queueOk s.port) : queueOk (s.endByDisable).port := by
  simp only [State.endByDisable]
  repeat' split
  all_goals simp (maxDischargeDepth := 12) [h]

@[simp] theorem queueOk_assertArcCut (s : State) (st : Nat)
    (h : queueOk s.port) : queueOk (s.assertArcCut st).port := by
  simp only [State.assertArcCut]
  repeat' split
  all_goals simp (maxDischargeDepth := 12) [h]

@[simp] theorem queueOk_movePole (s : State) (w : PoleName) (n : PoleState) (st : Nat)
    (h : queueOk s.port) : queueOk (s.movePole w n st).port := by
  simp only [State.movePole]
  repeat' split
  all_goals simp (maxDischargeDepth := 12) [h]

@[simp] theorem queueOk_releaseArcCut (s : State) (st : Nat)
    (h : queueOk s.port) : queueOk (s.releaseArcCut st).port := by
  simp only [State.releaseArcCut]
  repeat' split
  all_goals simp (maxDischargeDepth := 12) [h]

@[simp] theorem queueOk_evalPole (s : State) (w : PoleName) (z : Zone) (l : Bool)
    (h : queueOk s.port) : queueOk (s.evalPole w z l).port := by
  simp only [State.evalPole]
  repeat' split
  all_goals simp (maxDischargeDepth := 12) [h]

@[simp] theorem queueOk_polePass (s : State) (h : queueOk s.port) : queueOk (s.polePass).port := by
  simp only [State.polePass]
  repeat' split
  all_goals simp (maxDischargeDepth := 12) [h]

@[simp] theorem queueOk_lowerGap (s : State) (w : PoleName) (st : Nat)
    (h : queueOk s.port) : queueOk (s.lowerGap w st).port := by
  simp only [State.lowerGap]
  repeat' split
  all_goals simp (maxDischargeDepth := 12) [h]

@[simp] theorem queueOk_ackPole (s : State) (w : PoleName) (st : Nat)
    (h : queueOk s.port) : queueOk (s.ackPole w st).port := by
  simp only [State.ackPole]
  repeat' split
  all_goals simp (maxDischargeDepth := 12) [h]

@[simp] theorem queueOk_poleUpdate (s : State) (r : RoundRecord)
    (h : queueOk s.port) : queueOk (s.poleUpdate r).port := by
  simp only [State.poleUpdate]
  repeat' split
  all_goals simp (maxDischargeDepth := 12) [h]

@[simp] theorem queueOk_trip (s : State) (h : queueOk s.port) : queueOk (s.trip).port := by
  simp only [State.trip]
  simp (maxDischargeDepth := 12) [h]

@[simp] theorem queueOk_checkCurrent (s : State) (i : Nat)
    (h : queueOk s.port) : queueOk (s.checkCurrent i).port := by
  simp only [State.checkCurrent]
  repeat' split
  all_goals simp (maxDischargeDepth := 12) [h]

@[simp] theorem queueOk_overdrawCheck (s : State) (r : Raw)
    (h : queueOk s.port) : queueOk (s.overdrawCheck r).port := by
  simp only [State.overdrawCheck]
  repeat' split
  all_goals simp (maxDischargeDepth := 12) [h]

@[simp] theorem queueOk_sounderOn (s : State) (st : Nat)
    (h : queueOk s.port) : queueOk (s.sounderOn st).port := by
  simp only [State.sounderOn]
  repeat' split
  all_goals simp (maxDischargeDepth := 12) [h]

@[simp] theorem queueOk_sounderOffCheck (s : State) (st : Nat)
    (h : queueOk s.port) : queueOk (s.sounderOffCheck st).port := by
  simp only [State.sounderOffCheck]
  repeat' split
  all_goals simp (maxDischargeDepth := 12) [h]

@[simp] theorem queueOk_slateUpdate (s : State) (r : RoundRecord)
    (h : queueOk s.port) : queueOk (s.slateUpdate r).port := by
  simp only [State.slateUpdate]
  repeat' split
  all_goals simp (maxDischargeDepth := 12) [h]

@[simp] theorem queueOk_slateSleep (s : State) (h : queueOk s.port) : queueOk (s.slateSleep).port := by
  simp only [State.slateSleep]
  repeat' split
  all_goals simp (maxDischargeDepth := 12) [h]

@[simp] theorem queueOk_slateWake (s : State) (h : queueOk s.port) : queueOk (s.slateWake).port := by
  simp only [State.slateWake]
  repeat' split
  all_goals simp (maxDischargeDepth := 12) [h]

@[simp] theorem queueOk_absorb (s : State) (r : RoundRecord)
    (h : queueOk s.port) : queueOk (s.absorb r).port := by
  simp only [State.absorb]
  simp (maxDischargeDepth := 12) [h]

@[simp] theorem queueOk_enterLimp (s : State) (h : queueOk s.port) : queueOk (s.enterLimp).port := by
  simp only [State.enterLimp]
  simp (maxDischargeDepth := 12) [h]

@[simp] theorem queueOk_enterLineDown (s : State) (c v n : Nat)
    (h : queueOk s.port) : queueOk (s.enterLineDown c v n).port := by
  simp only [State.enterLineDown]
  simp (maxDischargeDepth := 12) [h]

@[simp] theorem queueOk_lineFault (s : State) (c n : Nat)
    (h : queueOk s.port) : queueOk (s.lineFault c n).port := by
  simp only [State.lineFault]
  repeat' split
  all_goals simp (maxDischargeDepth := 12) [h]

@[simp] theorem queueOk_discard (s : State) (n : Nat)
    (h : queueOk s.port) : queueOk (s.discard n).port := by
  simp only [State.discard]
  repeat' split
  all_goals simp (maxDischargeDepth := 12) [h]

@[simp] theorem queueOk_enterClashed (s : State) (k : Nat)
    (h : queueOk s.port) : queueOk (s.enterClashed k).port := by
  simp only [State.enterClashed]
  simp (maxDischargeDepth := 12) [h]

@[simp] theorem queueOk_limpAtStart (s : State) (h : queueOk s.port) : queueOk (s.limpAtStart).port := by
  simp only [State.limpAtStart]
  repeat' split
  all_goals simp (maxDischargeDepth := 12) [h]

@[simp] theorem queueOk_startFrame (s : State) (h : queueOk s.port) : queueOk (s.startFrame).port := by
  simp only [State.startFrame]
  simp (maxDischargeDepth := 12) [h]

@[simp] theorem queueOk_slotEnd (s : State) (k : Nat)
    (h : queueOk s.port) : queueOk (s.slotEnd k).port := by
  simp only [State.slotEnd]
  repeat' split
  all_goals simp (maxDischargeDepth := 12) [h]

@[simp] theorem queueOk_endSample (s : State) (h : queueOk s.port) : queueOk (s.endSample).port := by
  simp only [State.endSample]
  repeat' split
  all_goals simp (maxDischargeDepth := 12) [h]

@[simp] theorem queueOk_fallingEdge (s : State) (h : queueOk s.port) : queueOk (s.fallingEdge).port := by
  simp only [State.fallingEdge]
  repeat' split
  all_goals simp (maxDischargeDepth := 12) [h]

@[simp] theorem queueOk_lowHalfEnd (s : State) (h : queueOk s.port) : queueOk (s.lowHalfEnd).port := by
  simp only [State.lowHalfEnd]
  repeat' split
  all_goals simp (maxDischargeDepth := 12) [h]

@[simp] theorem queueOk_wake (s : State) (b : Bool) (h : queueOk s.port) : queueOk (s.wake b).port := by
  simp only [State.wake]
  simp (maxDischargeDepth := 12) [h]

@[simp] theorem queueOk_sleepBudget (s : State) (h : queueOk s.port) : queueOk (s.sleepBudget).port := by
  simp only [State.sleepBudget]
  repeat' split
  all_goals simp (maxDischargeDepth := 12) [h]

@[simp] theorem queueOk_sleepCeil (s : State) (h : queueOk s.port) : queueOk (s.sleepCeil).port := by
  simp only [State.sleepCeil]
  repeat' split
  all_goals simp (maxDischargeDepth := 12) [h]

@[simp] theorem queueOk_fallAsleep (s : State) (h : queueOk s.port) : queueOk (s.fallAsleep).port := by
  simp only [State.fallAsleep]
  simp (maxDischargeDepth := 12) [h]

@[simp] theorem queueOk_enterAsleep (s : State) (h : queueOk s.port) : queueOk (s.enterAsleep).port := by
  simp only [State.enterAsleep]
  repeat' split
  all_goals simp (maxDischargeDepth := 12) [h]

@[simp] theorem queueOk_ownCause (s : State) (h : queueOk s.port) : queueOk (s.ownCause).port := by
  simp only [State.ownCause]
  repeat' split
  all_goals simp (maxDischargeDepth := 12) [h]

@[simp] theorem queueOk_slowDetect (s : State) (h : queueOk s.port) : queueOk (s.slowDetect).port := by
  simp only [State.slowDetect]
  repeat' split
  all_goals simp (maxDischargeDepth := 12) [h]

/-- A station reset leaves an empty queue (R187). -/
@[simp] theorem queueOk_resetAwake (s : State) : queueOk (s.resetAwake).port := by
  simp [State.resetAwake, Port.stationReset, Port.reset, queueOk, unlatchedCount, Port.unlatched,
    Config.queueDepth]

@[simp] theorem queueOk_stationReset (s : State) : queueOk (s.stationReset).port := queueOk_resetAwake _

@[simp] theorem queueOk_layoverStep (s : State) (r : RoundRecord)
    (h : queueOk s.port) : queueOk (s.layoverStep r).port := by
  simp only [State.layoverStep]
  repeat' split
  all_goals simp (maxDischargeDepth := 12) [h]

@[simp] theorem queueOk_evalUpdate (s : State) (r : RoundRecord)
    (h : queueOk s.port) : queueOk (s.evalUpdate r).port := by
  simp only [State.evalUpdate]
  simp (maxDischargeDepth := 12) [h]

@[simp] theorem queueOk_actUpdate (s : State) (r : RoundRecord)
    (h : queueOk s.port) : queueOk (s.actUpdate r).port := by
  simp only [State.actUpdate]
  simp (maxDischargeDepth := 12) [h]

@[simp] theorem queueOk_viewUpdate (s : State) (r : RoundRecord)
    (h : queueOk s.port) : queueOk (s.viewUpdate r).port := by
  simp only [State.viewUpdate]
  simp (maxDischargeDepth := 12) [h]

@[simp] theorem queueOk_lineComplete (s : State) (m : Mode)
    (h : queueOk s.port) : queueOk (s.lineComplete m).port := by
  simp only [State.lineComplete]
  repeat' split
  all_goals simp (maxDischargeDepth := 12) [h]

@[simp] theorem queueOk_complete (s : State) (m : Mode)
    (h : queueOk s.port) : queueOk (s.complete m).port := by
  simp only [State.complete]
  simp (maxDischargeDepth := 12) [h]

@[simp] theorem queueOk_countLow (s : State) (h : queueOk s.port) : queueOk (s.countLow).port := by
  simp only [State.countLow]
  repeat' split
  all_goals simp (maxDischargeDepth := 12) [h]

@[simp] theorem queueOk_midResync (s : State) (h : Bool)
    (hq : queueOk s.port) : queueOk (s.midResync h).port := by
  simp only [State.midResync]
  repeat' split
  all_goals simp (maxDischargeDepth := 12) [hq]

@[simp] theorem queueOk_midFrame (s : State) (h : Bool)
    (hq : queueOk s.port) : queueOk (s.midFrame h).port := by
  simp only [State.midFrame]
  repeat' split
  all_goals simp (maxDischargeDepth := 12) [hq]

@[simp] theorem queueOk_midSlots (s : State) (h : Bool)
    (hq : queueOk s.port) : queueOk (s.midSlots h).port := by
  simp only [State.midSlots]
  repeat' split
  all_goals simp (maxDischargeDepth := 12) [hq]

@[simp] theorem queueOk_stopLow (s : State) (h : queueOk s.port) : queueOk (s.stopLow).port := by
  simp only [State.stopLow]
  repeat' split
  all_goals simp (maxDischargeDepth := 12) [h]

@[simp] theorem queueOk_midStop (s : State) (h : Bool)
    (hq : queueOk s.port) : queueOk (s.midStop h).port := by
  simp only [State.midStop]
  repeat' split
  all_goals simp (maxDischargeDepth := 12) [hq]

@[simp] theorem queueOk_samplePhase (s : State) (h : queueOk s.port) : queueOk (s.samplePhase).port := by
  simp only [State.samplePhase]
  repeat' split
  all_goals simp (maxDischargeDepth := 12) [h]

@[simp] theorem queueOk_midSample (s : State) (h : queueOk s.port) : queueOk (s.midSample).port := by
  simp only [State.midSample]
  repeat' split
  all_goals simp (maxDischargeDepth := 12) [h]

@[simp] theorem queueOk_paramsTaken (s : State) (h : queueOk s.port) : queueOk (s.paramsTaken).port := by
  simp only [State.paramsTaken]
  simp (maxDischargeDepth := 12) [h]

@[simp] theorem queueOk_commandByte (s : State) (h : queueOk s.port) : queueOk (s.commandByte).port := by
  simp only [State.commandByte]
  simp (maxDischargeDepth := 12) [h]

@[simp] theorem queueOk_settingWritten (s : State) (c : Nat)
    (h : queueOk s.port) : queueOk (s.settingWritten c).port := by
  simp only [State.settingWritten]
  repeat' split
  all_goals simp (maxDischargeDepth := 12) [h]

@[simp] theorem queueOk_cfgWrite (s : State) (i : Byte) (v : BitVec 16)
    (h : queueOk s.port) : queueOk (s.cfgWrite i v).port := by
  simp only [State.cfgWrite]
  repeat' split
  all_goals simp (maxDischargeDepth := 12) [h]

@[simp] theorem queueOk_cfgLock (s : State) (h : queueOk s.port) : queueOk (s.cfgLock).port := by
  simp only [State.cfgLock]
  repeat' split
  all_goals simp (maxDischargeDepth := 12) [h]

@[simp] theorem queueOk_demandCmd (s : State) (v : BitVec 16)
    (h : queueOk s.port) : queueOk (s.demandCmd v).port := by
  simp only [State.demandCmd]
  repeat' split
  all_goals simp (maxDischargeDepth := 12) [h]

@[simp] theorem queueOk_roleValueCmd (s : State) (v : BitVec 16)
    (h : queueOk s.port) : queueOk (s.roleValueCmd v).port := by
  simp only [State.roleValueCmd]
  repeat' split
  all_goals simp (maxDischargeDepth := 12) [h]

@[simp] theorem queueOk_maskOne (s : State) (i : Fin 8) (b : Bool)
    (h : queueOk s.port) : queueOk (s.maskOne i b).port := by
  simp only [State.maskOne]
  repeat' split
  all_goals simp (maxDischargeDepth := 12) [h]

@[simp] theorem queueOk_maskAll (s : State) (l : List (Fin 8)) (m : Byte)
    (h : queueOk s.port) : queueOk (State.maskAll l m s).port := by
  induction l generalizing s with
  | nil => simpa [State.maskAll] using h
  | cons i r ih => exact ih _ (by simp [h])

@[simp] theorem queueOk_feederMaskCmd (s : State) (m : Byte)
    (h : queueOk s.port) : queueOk (s.feederMaskCmd m).port := by
  simp only [State.feederMaskCmd]
  repeat' split
  all_goals simp (maxDischargeDepth := 12) [h]

@[simp] theorem queueOk_snapshotCmd (s : State) (i j : Byte)
    (h : queueOk s.port) : queueOk (s.snapshotCmd i j).port := by
  simp only [State.snapshotCmd]
  repeat' split
  all_goals simp (maxDischargeDepth := 12) [h]

@[simp] theorem queueOk_runParams (s : State) (c : ParamCommand) (l : List Byte)
    (h : queueOk s.port) : queueOk (s.runParams c l).port := by
  simp only [State.runParams]
  repeat' split
  all_goals simp (maxDischargeDepth := 12) [h]

@[simp] theorem queueOk_parameterByte (s : State) (b : Byte)
    (h : queueOk s.port) : queueOk (s.parameterByte b).port := by
  simp only [State.parameterByte]
  repeat' split
  all_goals simp (maxDischargeDepth := 12) [h]

@[simp] theorem queueOk_statusRead (s : State) (h : queueOk s.port) : queueOk (s.statusRead).port := by
  simp only [State.statusRead]
  simp (maxDischargeDepth := 12) [h]

@[simp] theorem queueOk_summaryRead (s : State) (h : queueOk s.port) : queueOk (s.summaryRead).port := by
  simp only [State.summaryRead]
  repeat' split
  all_goals simp (maxDischargeDepth := 12) [h]

/-- A data read of the queue keeps its invariant (R188). -/
theorem queueOk_noticeRead (p : Port) (h : queueOk p) : queueOk p.noticeRead := by
  obtain ⟨h1, h2, h3, h4, h5, h6⟩ := h
  unfold Port.noticeRead
  split
  · exact ⟨h1, h2, h3, h4, h5, h6⟩
  · rename_i n r hq
    have hsub : ∀ k, r.countP (fun m => m.kind == k) ≤ p.unlatched.countP (fun m => m.kind == k) := by
      intro k
      unfold Port.unlatched
      split
      · simp [hq]
      · simp [hq, List.countP_cons]
    split
    · rename_i hb
      refine ⟨h1, ?_, ?_, by simpa using hb, by simp [hq], ?_⟩
      · by_cases hl : p.headLatched = true
        · simpa [unlatchedCount, Port.unlatched, hl] using h2
        · by_cases h0 : p.byteIdx = 0
          · simpa [unlatchedCount, Port.unlatched, hl, h0, hq] using le_trans (hsub .grant) h2
          · exact absurd (h6 (Nat.pos_of_ne_zero h0)) hl
      · by_cases hl : p.headLatched = true
        · simpa [unlatchedCount, Port.unlatched, hl] using h3
        · by_cases h0 : p.byteIdx = 0
          · simpa [unlatchedCount, Port.unlatched, hl, h0, hq] using le_trans (hsub .ceiling) h3
          · exact absurd (h6 (Nat.pos_of_ne_zero h0)) hl
      · intro _
        by_cases h0 : p.byteIdx = 0
        · simp [h0]
        · simp [h6 (Nat.pos_of_ne_zero h0)]
    · have hr : r.length ≤ Config.queueDepth := by
        rw [hq, List.length_cons] at h1
        omega
      exact ⟨hr, le_trans (hsub .grant) h2, le_trans (hsub .ceiling) h3, by simp, by simp, by simp⟩

end Sys2Proof.Laws
end

