-- ==== Sys2Proof/Laws/Roles.lean ====
section
/-!
SUPPORT. The strapped role and what it selects rest on the straps alone (R63, R192): two states of the same
straps agree on them, and no setter of another block moves them.
-/

namespace Sys2Proof.Laws

open Sys2Proof.Machine

/-- States of the same straps have the same role. -/
theorem roles_congr (s t : State) (h : t.straps = s.straps) :
    t.role = s.role ∧ t.isPole = s.isPole ∧ t.isDrive = s.isDrive ∧ t.isAux = s.isAux ∧ t.isStore = s.isStore ∧
      t.isCab = s.isCab ∧ t.roleAssigned = s.roleAssigned ∧ t.hasCeiling = s.hasCeiling ∧
      t.contends = s.contends ∧ t.usesGroupB = s.usesGroupB := by
  simp only [State.role, State.isPole, State.isDrive, State.isAux, State.isStore, State.isCab,
    State.roleAssigned, State.hasCeiling, State.contends, State.usesGroupB, h, and_self]

/-- The own grant rests on the grant set and the station number (R107). -/
theorem ownGrant_congr (s t : State) (h : t.straps = s.straps) (g : t.budget.grants = s.budget.grants) :
    t.ownGrant = s.ownGrant := by
  simp only [State.ownGrant, h, g]

@[simp] theorem setPins_roles (s : State) (x : Pins) :
    (s.setPins x).role = s.role ∧ (s.setPins x).isPole = s.isPole ∧
      (s.setPins x).isDrive = s.isDrive ∧ (s.setPins x).isAux = s.isAux ∧
      (s.setPins x).isStore = s.isStore ∧ (s.setPins x).isCab = s.isCab ∧
      (s.setPins x).roleAssigned = s.roleAssigned ∧ (s.setPins x).hasCeiling = s.hasCeiling ∧
      (s.setPins x).contends = s.contends ∧ (s.setPins x).usesGroupB = s.usesGroupB :=
  roles_congr s (s.setPins x) rfl

@[simp] theorem setLine_roles (s : State) (x : Line) :
    (s.setLine x).role = s.role ∧ (s.setLine x).isPole = s.isPole ∧
      (s.setLine x).isDrive = s.isDrive ∧ (s.setLine x).isAux = s.isAux ∧
      (s.setLine x).isStore = s.isStore ∧ (s.setLine x).isCab = s.isCab ∧
      (s.setLine x).roleAssigned = s.roleAssigned ∧ (s.setLine x).hasCeiling = s.hasCeiling ∧
      (s.setLine x).contends = s.contends ∧ (s.setLine x).usesGroupB = s.usesGroupB :=
  roles_congr s (s.setLine x) rfl

@[simp] theorem setView_roles (s : State) (x : View) :
    (s.setView x).role = s.role ∧ (s.setView x).isPole = s.isPole ∧
      (s.setView x).isDrive = s.isDrive ∧ (s.setView x).isAux = s.isAux ∧
      (s.setView x).isStore = s.isStore ∧ (s.setView x).isCab = s.isCab ∧
      (s.setView x).roleAssigned = s.roleAssigned ∧ (s.setView x).hasCeiling = s.hasCeiling ∧
      (s.setView x).contends = s.contends ∧ (s.setView x).usesGroupB = s.usesGroupB :=
  roles_congr s (s.setView x) rfl

@[simp] theorem setScan_roles (s : State) (x : Scan) :
    (s.setScan x).role = s.role ∧ (s.setScan x).isPole = s.isPole ∧
      (s.setScan x).isDrive = s.isDrive ∧ (s.setScan x).isAux = s.isAux ∧
      (s.setScan x).isStore = s.isStore ∧ (s.setScan x).isCab = s.isCab ∧
      (s.setScan x).roleAssigned = s.roleAssigned ∧ (s.setScan x).hasCeiling = s.hasCeiling ∧
      (s.setScan x).contends = s.contends ∧ (s.setScan x).usesGroupB = s.usesGroupB :=
  roles_congr s (s.setScan x) rfl

@[simp] theorem setPole_roles (s : State) (x : PoleWatch) :
    (s.setPole x).role = s.role ∧ (s.setPole x).isPole = s.isPole ∧
      (s.setPole x).isDrive = s.isDrive ∧ (s.setPole x).isAux = s.isAux ∧
      (s.setPole x).isStore = s.isStore ∧ (s.setPole x).isCab = s.isCab ∧
      (s.setPole x).roleAssigned = s.roleAssigned ∧ (s.setPole x).hasCeiling = s.hasCeiling ∧
      (s.setPole x).contends = s.contends ∧ (s.setPole x).usesGroupB = s.usesGroupB :=
  roles_congr s (s.setPole x) rfl

@[simp] theorem setBudget_roles (s : State) (x : Budget) :
    (s.setBudget x).role = s.role ∧ (s.setBudget x).isPole = s.isPole ∧
      (s.setBudget x).isDrive = s.isDrive ∧ (s.setBudget x).isAux = s.isAux ∧
      (s.setBudget x).isStore = s.isStore ∧ (s.setBudget x).isCab = s.isCab ∧
      (s.setBudget x).roleAssigned = s.roleAssigned ∧ (s.setBudget x).hasCeiling = s.hasCeiling ∧
      (s.setBudget x).contends = s.contends ∧ (s.setBudget x).usesGroupB = s.usesGroupB :=
  roles_congr s (s.setBudget x) rfl

@[simp] theorem setCeil_roles (s : State) (x : Ceil) :
    (s.setCeil x).role = s.role ∧ (s.setCeil x).isPole = s.isPole ∧
      (s.setCeil x).isDrive = s.isDrive ∧ (s.setCeil x).isAux = s.isAux ∧
      (s.setCeil x).isStore = s.isStore ∧ (s.setCeil x).isCab = s.isCab ∧
      (s.setCeil x).roleAssigned = s.roleAssigned ∧ (s.setCeil x).hasCeiling = s.hasCeiling ∧
      (s.setCeil x).contends = s.contends ∧ (s.setCeil x).usesGroupB = s.usesGroupB :=
  roles_congr s (s.setCeil x) rfl

@[simp] theorem setArb_roles (s : State) (x : Arbiter) :
    (s.setArb x).role = s.role ∧ (s.setArb x).isPole = s.isPole ∧
      (s.setArb x).isDrive = s.isDrive ∧ (s.setArb x).isAux = s.isAux ∧
      (s.setArb x).isStore = s.isStore ∧ (s.setArb x).isCab = s.isCab ∧
      (s.setArb x).roleAssigned = s.roleAssigned ∧ (s.setArb x).hasCeiling = s.hasCeiling ∧
      (s.setArb x).contends = s.contends ∧ (s.setArb x).usesGroupB = s.usesGroupB :=
  roles_congr s (s.setArb x) rfl

@[simp] theorem setFeed_roles (s : State) (x : Eight Feeder) :
    (s.setFeed x).role = s.role ∧ (s.setFeed x).isPole = s.isPole ∧
      (s.setFeed x).isDrive = s.isDrive ∧ (s.setFeed x).isAux = s.isAux ∧
      (s.setFeed x).isStore = s.isStore ∧ (s.setFeed x).isCab = s.isCab ∧
      (s.setFeed x).roleAssigned = s.roleAssigned ∧ (s.setFeed x).hasCeiling = s.hasCeiling ∧
      (s.setFeed x).contends = s.contends ∧ (s.setFeed x).usesGroupB = s.usesGroupB :=
  roles_congr s (s.setFeed x) rfl

@[simp] theorem setSlate_roles (s : State) (x : Slate) :
    (s.setSlate x).role = s.role ∧ (s.setSlate x).isPole = s.isPole ∧
      (s.setSlate x).isDrive = s.isDrive ∧ (s.setSlate x).isAux = s.isAux ∧
      (s.setSlate x).isStore = s.isStore ∧ (s.setSlate x).isCab = s.isCab ∧
      (s.setSlate x).roleAssigned = s.roleAssigned ∧ (s.setSlate x).hasCeiling = s.hasCeiling ∧
      (s.setSlate x).contends = s.contends ∧ (s.setSlate x).usesGroupB = s.usesGroupB :=
  roles_congr s (s.setSlate x) rfl

@[simp] theorem setWakeDet_roles (s : State) (x : WakeDet) :
    (s.setWakeDet x).role = s.role ∧ (s.setWakeDet x).isPole = s.isPole ∧
      (s.setWakeDet x).isDrive = s.isDrive ∧ (s.setWakeDet x).isAux = s.isAux ∧
      (s.setWakeDet x).isStore = s.isStore ∧ (s.setWakeDet x).isCab = s.isCab ∧
      (s.setWakeDet x).roleAssigned = s.roleAssigned ∧ (s.setWakeDet x).hasCeiling = s.hasCeiling ∧
      (s.setWakeDet x).contends = s.contends ∧ (s.setWakeDet x).usesGroupB = s.usesGroupB :=
  roles_congr s (s.setWakeDet x) rfl

@[simp] theorem setPort_roles (s : State) (x : Port) :
    (s.setPort x).role = s.role ∧ (s.setPort x).isPole = s.isPole ∧
      (s.setPort x).isDrive = s.isDrive ∧ (s.setPort x).isAux = s.isAux ∧
      (s.setPort x).isStore = s.isStore ∧ (s.setPort x).isCab = s.isCab ∧
      (s.setPort x).roleAssigned = s.roleAssigned ∧ (s.setPort x).hasCeiling = s.hasCeiling ∧
      (s.setPort x).contends = s.contends ∧ (s.setPort x).usesGroupB = s.usesGroupB :=
  roles_congr s (s.setPort x) rfl

@[simp] theorem setPending_roles (s : State) (x : List Instr) :
    (s.setPending x).role = s.role ∧ (s.setPending x).isPole = s.isPole ∧
      (s.setPending x).isDrive = s.isDrive ∧ (s.setPending x).isAux = s.isAux ∧
      (s.setPending x).isStore = s.isStore ∧ (s.setPending x).isCab = s.isCab ∧
      (s.setPending x).roleAssigned = s.roleAssigned ∧ (s.setPending x).hasCeiling = s.hasCeiling ∧
      (s.setPending x).contends = s.contends ∧ (s.setPending x).usesGroupB = s.usesGroupB :=
  roles_congr s (s.setPending x) rfl

end Sys2Proof.Laws
end

