-- ==== Sys2Proof/Laws/SettingsOps.lean ====
section
/-!
SUPPORT. The settings: a write keeps every one in its range and every pair in order (R193).
-/

namespace Sys2Proof.Laws

open Sys2Proof.Machine

theorem clamp_bounds (a b x : Nat) (h : a ≤ b) : a ≤ clamp a b x ∧ clamp a b x ≤ b := by
  simp only [clamp]; omega

theorem eightNat_get_set (v : Eight Nat) (i j : Fin 8) (a : Nat) : (v.set i a).get j = if j = i then a else
    v.get j := by
  fin_cases i <;> fin_cases j <;> rfl

theorem settingsOk_put (t u : Settings) (c v : Nat) (h : settingsOk t) (hp : t.put c v = some u) :
    settingsOk u := by
  obtain ⟨h1,h2,h3⟩ := h
  simp only [Settings.put] at hp
  split at hp
  all_goals try
    (simp only [Option.some.injEq] at hp; subst hp
     refine ⟨?_, ?_, ?_⟩
     all_goals first | exact h1 | exact h2 | exact h3 | (simp only [budgetSettingsOk, poleSettingsOk,
         otherSettingsOk, Settings.pairU, Settings.pairShoe, Settings.pairAngle, clampTier, clamp] at * <;> grind))
  split at hp
  · simp only [Option.some.injEq] at hp; subst hp
    refine ⟨h1, h2, ?_⟩
    simp only [otherSettingsOk, clamp] at *
    grind [eightNat_get_set]
  · split at hp
    · simp only [Option.some.injEq] at hp; subst hp
      refine ⟨h1, h2, ?_⟩
      simp only [otherSettingsOk, clamp] at *
      grind [eightNat_get_set]
    · simp at hp

theorem settingsOk_cfgWrite (s : State) (i : Byte) (v : BitVec 16) (h : settingsOk s.port.settings) :
    settingsOk (s.cfgWrite i v).port.settings := by
  simp only [State.cfgWrite]
  split
  · simpa using h
  · split
    · rename_i t ht; have := settingsOk_put _ _ _ _ h ht
      simp only [State.settingWritten]; repeat' split
      all_goals simpa using this
    · simpa using h

end Sys2Proof.Laws
end

