-- ==== Sys2Proof/Laws/Settle.lean ====
section
/-!
SUPPORT. The settle timer: each operation on it keeps the elapsed time of a SETTLING station below SETTLE_MS
(R75).
-/

namespace Sys2Proof.Machine

/-- What the settle timer can do in a millisecond: it goes up by one or stays, and not to SETTLE_MS. -/
theorem Scan.tick_settleMs (x : Scan) (awake : Bool) (ms : Nat) :
    (x.tick awake ms).settled = x.settled ∧
      ((x.tick awake ms).settleMs = x.settleMs ∨
        (x.tick awake ms).settleMs = x.settleMs + 1 ∧ x.settleMs + 1 < ms) := by
  unfold Scan.tick
  split <;> simp_all

/-- A millisecond keeps the elapsed time below SETTLE_MS. -/
theorem settleOk_tick (s : State) (h : settleOk s) : settleOk s.tick := by
  intro ha hb
  have hs := Scan.tick_settleMs s.scan (s.line.join != .asleep) s.port.settings.settleMs
  have e : s.tick.scan = s.scan.tick (s.line.join != .asleep) s.port.settings.settleMs := rfl
  have p : s.tick.port = s.port := rfl
  have l : s.tick.line.join = s.line.join := rfl
  rw [e] at hb ⊢
  rw [p]
  have := h (l ▸ ha) (hs.1 ▸ hb)
  omega

/-- After SETTLE_EXPIRY the elapsed time is SETTLE_MS or more and the station SETTLED. -/
theorem Scan.settle_settled (x : Scan) (ms : Nat) : (x.settle ms).settled = true ∧ ms ≤ (x.settle ms).settleMs := by
  simp [Scan.settle]

/-- A write of SETTLE_MS settles a station whose elapsed time has reached it. -/
theorem settleOk_settleNow (s : State) : settleOk s.settleNow := by
  intro ha hb
  unfold State.settleNow at *
  split at hb
  · cases hb
  · rename_i h
    simp only [h, if_false] at ha ⊢
    simp_all

/-- A wake starts the settle timer from zero. -/
theorem Scan.wake_settle (x : Scan) : x.wake.settled = false ∧ x.wake.settleMs = 0 := ⟨rfl, rfl⟩

end Sys2Proof.Machine
end

