-- ==== Sys2Proof/Laws/ViewUpdate.lean ====
section
/-!
SUPPORT. The blocks that act on a view update read nothing of the line engine (R42, R58): each commutes with a
change of it. And what a dropped window leaves of the feeder table (R149, R158).
-/

namespace Sys2Proof.Laws

open Sys2Proof.Machine

theorem notify_setLine (s : State) (l : Line) (k : NoticeKind) (a b c : Nat) :
    (s.setLine l).notify k a b c = (s.notify k a b c).setLine l := rfl

theorem notifyAll_setLine (s : State) (l : Line) (k : NoticeKind) (n : Nat) (x : List (Nat × Nat)) :
    (s.setLine l).notifyAll k n x = (s.notifyAll k n x).setLine l := by
  induction x generalizing s with
  | nil => rfl
  | cons a r ih => obtain ⟨a, v⟩ := a; simp only [State.notifyAll, notify_setLine, ih]

theorem absorb_setLine (s : State) (l : Line) (r : RoundRecord) :
    (s.setLine l).absorb r = (s.absorb r).setLine l := notifyAll_setLine (s.setView _) l _ _ _

theorem budgetUpdate_setLine (s : State) (l : Line) (r : RoundRecord) :
    (s.setLine l).budgetUpdate r = (s.budgetUpdate r).setLine l := by
  unfold State.budgetUpdate State.grantNotice
  split
  · simp only [apply_ite (State.setLine · l)]; rfl
  · rfl

theorem windowNotice_setLine (s : State) (l : Line) (h : Holder) (x : Option (Nat × Nat)) (n : Nat) :
    (s.setLine l).windowNotice h x n = (s.windowNotice h x n).setLine l := by
  cases x with
  | some a => obtain ⟨a, v⟩ := a; rfl
  | none => unfold State.windowNotice; simp only [apply_ite (State.setLine · l)]; rfl

theorem arbUpdate_setLine (s : State) (l : Line) (r : RoundRecord) :
    (s.setLine l).arbUpdate r = (s.arbUpdate r).setLine l := windowNotice_setLine (s.setArb _) l _ _ _

theorem lowerGap_setLine (s : State) (l : Line) (w : PoleName) (n : Nat) :
    (s.setLine l).lowerGap w n = (s.lowerGap w n).setLine l := by
  unfold State.lowerGap State.movePole
  simp only [apply_ite (State.setLine · l)]; rfl

theorem ackPole_setLine (s : State) (l : Line) (w : PoleName) (n : Nat) :
    (s.setLine l).ackPole w n = (s.ackPole w n).setLine l := by
  unfold State.ackPole
  simp only [apply_ite (State.setLine · l)]; rfl

theorem poleUpdate_setLine (s : State) (l : Line) (r : RoundRecord) :
    (s.setLine l).poleUpdate r = (s.poleUpdate r).setLine l := by
  have e : ∀ x, (s.setLine l).setPole x = (s.setPole x).setLine l := fun _ => rfl
  unfold State.poleUpdate
  simp only [setLine_roles, e]
  split
  · simp only [State.setLine_scan, State.setLine_pole, State.setLine_view]
    split <;> split <;> simp only [lowerGap_setLine, ackPole_setLine]
  · rfl

theorem sounderOn_setLine (s : State) (l : Line) (n : Nat) :
    (s.setLine l).sounderOn n = (s.sounderOn n).setLine l := by
  unfold State.sounderOn
  simp only [apply_ite (State.setLine · l)]; rfl

theorem sounderOffCheck_setLine (s : State) (l : Line) (n : Nat) :
    (s.setLine l).sounderOffCheck n = (s.sounderOffCheck n).setLine l := by
  unfold State.sounderOffCheck
  simp only [apply_ite (State.setLine · l)]; rfl

theorem slateUpdate_setLine (s : State) (l : Line) (r : RoundRecord) :
    (s.setLine l).slateUpdate r = (s.slateUpdate r).setLine l := by
  have e : ∀ x, (s.setLine l).setSlate x = (s.setSlate x).setLine l := fun _ => rfl
  have h : (s.setLine l).slateLevel = s.slateLevel := rfl
  unfold State.slateUpdate
  simp only [setLine_roles, e, h, notifyAll_setLine, State.setLine_port, State.setLine_slate, State.setLine_view,
    State.setLine_pins]
  split
  · split <;> simp only [sounderOn_setLine, sounderOffCheck_setLine]
  · rfl

theorem putCeil_setLine (s : State) (l : Line) (c : Ceil) (n : Nat) :
    (s.setLine l).putCeil c n = (s.putCeil c n).setLine l := by
  unfold State.putCeil
  simp only [apply_ite (State.setLine · l)]; rfl

theorem ceilingUpdate_setLine (s : State) (l : Line) (r : RoundRecord) (e : WindowEvent) :
    (s.setLine l).ceilingUpdate r e = (s.ceilingUpdate r e).setLine l := by
  have h : (s.setLine l).localCut = s.localCut := rfl
  have g : (s.setLine l).ownGrant = s.ownGrant := rfl
  unfold State.ceilingUpdate
  simp only [setLine_roles, putCeil_setLine, h, g, State.setLine_budget, State.setLine_ceil, State.setLine_port]
  split
  · split <;> rfl
  · rfl

theorem moveFeeder_setLine (s : State) (l : Line) (i : Fin 8) (d : FeederState) (c n : Nat) :
    (s.setLine l).moveFeeder i d c n = (s.moveFeeder i d c n).setLine l := rfl

theorem shedLoop_setLine (k g n : Nat) (s : State) (l : Line) :
    State.shedLoop k g n (s.setLine l) = (State.shedLoop k g n s).setLine l := by
  induction k generalizing s with
  | zero => rfl
  | succ k ih =>
    have e : (s.setLine l).energizedSum = s.energizedSum := rfl
    simp only [State.shedLoop, e, State.setLine_feed]
    split
    · cases shedTarget s.feed with
      | some i => simp only [moveFeeder_setLine, ih]
      | none => rfl
    · rfl

theorem deenergize_setLine (x : List (Fin 8)) (c n : Nat) (s : State) (l : Line) :
    State.deenergize x c n (s.setLine l) = (State.deenergize x c n s).setLine l := by
  induction x generalizing s with
  | nil => rfl
  | cons i r ih =>
    simp only [State.deenergize, State.setLine_feed]
    split <;> simp only [moveFeeder_setLine, ih]

theorem feederWindow_setLine (s : State) (l : Line) (e : WindowEvent) (n : Nat) :
    (s.setLine l).feederWindow e n = (s.feederWindow e n).setLine l := by
  rcases e with _ | ⟨_ | k⟩ | _ | ⟨_ | k⟩ | ⟨_ | k⟩ <;>
    simp only [State.feederWindow, State.feederBack, apply_ite (State.setLine · l)] <;> rfl

theorem feederUpdate_setLine (s : State) (l : Line) (r : RoundRecord) (e : WindowEvent) :
    (s.setLine l).feederUpdate r e = (s.feederUpdate r e).setLine l := by
  have c : ∀ (s : State) n, (s.setLine l).comfortCut n = (s.comfortCut n).setLine l := by
    intro s n
    simp only [State.comfortCut, setLine_roles, State.setLine_port, deenergize_setLine, apply_ite (State.setLine · l)]
  have d : ∀ (s : State) n, (s.setLine l).shedToGrant n = (s.shedToGrant n).setLine l := by
    intro s n
    have g : (s.setLine l).ownGrant = s.ownGrant := rfl
    simp only [State.shedToGrant, setLine_roles, shedLoop_setLine, g, apply_ite (State.setLine · l)]
  unfold State.feederUpdate
  simp only [setLine_roles, State.setLine_budget, State.setLine_pins, feederWindow_setLine, c]
  split
  · split <;> simp only [d]
  · rfl

theorem regenUpdate_setLine (s : State) (l : Line) (r : RoundRecord) :
    (s.setLine l).regenUpdate r = (s.regenUpdate r).setLine l := by
  unfold State.regenUpdate
  simp only [apply_ite (State.setLine · l)]; rfl

/-- The blocks that act on a view update read nothing of the line engine. -/
theorem actUpdate_setLine (s : State) (l : Line) (r : RoundRecord) :
    (s.setLine l).actUpdate r = (s.actUpdate r).setLine l := by
  have h : (s.setLine l).arbAct r = s.arbAct r := rfl
  simp only [State.actUpdate, h, arbUpdate_setLine, poleUpdate_setLine, slateUpdate_setLine, ceilingUpdate_setLine,
    feederUpdate_setLine, regenUpdate_setLine]

theorem evalUpdate_setLine (s : State) (l : Line) (r : RoundRecord) :
    (s.setLine l).evalUpdate r = (s.evalUpdate r).setLine { l with layoverRead := r.marks.layover } := by
  have h : ∀ (s : State), (s.setLine l).layoverFlag r =
    (s.layoverFlag r).setLine { l with layoverRead := r.marks.layover } := fun _ => rfl
  simp only [State.evalUpdate, absorb_setLine, h, budgetUpdate_setLine]

/-- A dropped window leaves the feeder table with its feeder back in WAITING (R149, R158). -/
theorem dropWindow_feed (s : State) : s.dropWindow.feed = feedBack s := by
  unfold State.dropWindow feedBack
  rcases s.arb.window with _ | ⟨len, left, _ | k⟩
  · rfl
  · rfl
  · simp only [State.feederBack, State.countStamp]
    by_cases h : (s.feed.get k).st = .inrush
    · rw [if_pos h]; exact congrArg State.feed (if_pos h)
    · rw [if_neg h]; exact (congrArg State.feed (if_neg h)).trans rfl

end Sys2Proof.Laws
end

