-- ==== Sys2Proof/Tests/Slice0.lean ====
section
/-!
SUPPORT. Small checks: the well-formedness check refuses ill-formed commands, each command of the table does
what its rule says on a small state, and every statement's hypotheses are met by some state.
-/

namespace Sys2Proof.Tests

open Sys2Proof Sys2Proof.Machine

set_option synthInstance.maxSize 4000
set_option Elab.async false

/-! ## Small states -/

/-- Both wires high, every other input released. -/
def idle : Pins := Pins.reset
/-- PACE-D low. -/
def low : Pins := { Pins.reset with pdHigh := false }
/-- PACE-B low. -/
def lowB : Pins := { Pins.reset with pbHigh := false }

/-- A station of this role at position 2, right after reset. -/
def station (role : BitVec 3) : State := { State.reset with straps := ⟨2, role⟩ }

/-- That station with another line engine. -/
def lined (role : BitVec 3) (l : Line) : State := (station role).setLine l

/-- The line engine with this driver, phase, low run and join state. -/
def engine (d : Driver) (ph : Phase) (run : Nat) (j : JoinState) : Line :=
  { Line.reset with driver := d, phase := ph, lowRun := run, join := j }

/-- The image of a sending station: these marks, key 0, count 5 and a band. -/
def sentImage (m : Marks) : Image := ⟨true, m, 0, 5, some ⟨true, 2, false, 2, 100, 0, Alarms.none⟩⟩

/-- A sending station in the slots, at this slot beat. -/
def inSlots (role : BitVec 3) (beat : Nat) : State :=
  lined role { engine .waitFall .slots 0 .joined with slotBeat := beat, image := sentImage Marks.empty }

/-- The 290 slots with these marks, key, count, and bands at positions. -/
def readOf (marks key count : Nat) (bands : List (Nat × Nat)) : BitVec 290 :=
  BitVec.ofNat 290 (bands.foldl (fun n b => n + b.2 * 2 ^ (224 - 32 * b.1))
    (marks * 2 ^ 280 + key * 2 ^ 272 + count * 2 ^ 256))

/-- A band: present, with this role, tier, claim and value. -/
def bandOf (role tier claim value : Nat) : Nat :=
  2 ^ 31 + role * 2 ^ 28 + tier * 2 ^ 25 + claim * 2 ^ 15 + value * 2 ^ 5

/-- A round of a POLE at position 0 with 600 V and of the station itself, claiming 100. -/
def roundRead (marks key : Nat) : BitVec 290 :=
  readOf marks key 5 [(0, bandOf 1 0 0 600), (2, bandOf 2 2 100 0)]

/-- A station that reads the stop frame of that round. -/
def ending (role : BitVec 3) (j : JoinState) (marks key : Nat) : State :=
  lined role { engine .waitRise .stop 2 j with
    rx := roundRead marks key, roundCount := 5, image := sentImage Marks.empty }

/-- The peer view with the POLE and the station heard before. -/
def heardView : View :=
  { View.cleared with
    entries := ((Eight.all PeerEntry.cleared).set 0
      ⟨.present, 1, 0, false, Alarms.none, 0, some 0, 600, some 600, 0, 600, 0⟩).set 2
        ⟨.present, 2, 2, false, Alarms.none, 100, some 100, 0, some 0, 100, 0, 0⟩
    lineOff := false, pole := some 0, u := 600, latest := some Marks.empty }

/-- The state with a conversion of this channel running. -/
def converting (s : State) (c : Channel) (r : Raw) : State :=
  s.setScan { s.scan with conv := some ⟨c, r⟩ }

/-- The command answers a next state of which this holds. -/
def after (i : Instr) (s : State) (f : State → Bool) : Bool :=
  match exec i s with
  | .next t => f t
  | _ => false

/-! ## Well-formedness refuses -/

theorem test_wf_high_half_low : (Instr.highHalfExpiry lowB).wellFormed = false := by decide
theorem test_wf_b_stuck_high : (Instr.paceBStuckLow idle).wellFormed = false := by decide
theorem test_wf_d_stuck_high : (Instr.paceDStuckLow idle).wellFormed = false := by decide
theorem test_wf_pressed_b_low : (Instr.pressedButHigh .paceB lowB).wellFormed = false := by decide
theorem test_wf_pressed_frame_low : (Instr.pressedButHigh .paceDFrame low).wellFormed = false := by decide
theorem test_wf_pressed_press_low : (Instr.pressedButHigh .paceDPress low).wellFormed = false := by decide
theorem test_wf_start_frame_high : (Instr.startFrameEvent idle).wellFormed = false := by decide
theorem test_wf_clash_high : (Instr.clash idle).wellFormed = false := by decide
theorem test_wf_completion_low : (Instr.roundCompletion low).wellFormed = false := by decide
theorem test_wf_resync_stop_low : (Instr.resyncStopFrame low).wellFormed = false := by decide
theorem test_wf_resync_idle_low : (Instr.resyncIdle low).wellFormed = false := by decide
theorem test_wf_ack_released : (Instr.ackInPress idle).wellFormed = false := by decide
theorem test_wf_wake_released : (Instr.wakeInEdge idle).wellFormed = false := by decide
theorem test_wf_line_wake_high : (Instr.lineWake idle).wellFormed = false := by decide
theorem test_wf_unknown_is_known : (Instr.unknownCommand 0x11).wellFormed = false := by decide
theorem test_wf_accepts : (Instr.unknownCommand 0x12).wellFormed = true ∧
    (Instr.clash low).wellFormed = true ∧ (Instr.roundCompletion idle).wellFormed = true := by decide

/-! ## What each command does on a small state -/

theorem test_decode_no_word : decodeTableWord 8 0x10 = none := rfl

/-- The Code column of R186, and a parameter byte. -/
theorem test_command_codes :
    [0x10, 0x11, 0x20, 0x21, 0x22, 0x30, 0x31, 0x32, 0x40, 0x41, 0x12].map (fun c => portWriteRow true c idle) =
      [.commandIntake .cfgWrite, .cfgLock, .commandIntake .demand, .commandIntake .roleValue,
        .commandIntake .feederMask, .commandIntake .snapshot, .notices, .summary, .stationReset idle,
        .wakeCommand idle, .unknownCommand 0x12] ∧
    portWriteRow false 0x10 idle = .parameterByteWrite 0x10 := by decide

theorem test_power_on : after (.powerOn ⟨3, 1⟩ idle) (station 2) (fun t =>
    t.line.driver == .highHalf && t.isPole && t.scan.conv == some ⟨.an0, 0⟩ && t.line.join == .listen) =
    true := by decide +kernel

theorem test_low_half_expiry : after (.lowHalfExpiry lowB)
    (lined 2 { engine .lowHalf .idle 0 .listen with pbDrv := true })
    (fun t => t.line.driver == .waitRise && !t.line.pbDrv) = true := by decide +kernel

theorem test_high_half_expiry : after (.highHalfExpiry idle) (lined 2 (engine .highHalf .idle 0 .joined))
    (fun t => t.line.driver == .lowHalf && t.line.pbDrv && !t.line.pdDrv) = true := by decide +kernel

theorem test_pace_b_stuck_low : after (.paceBStuckLow lowB) (lined 2 (engine .waitRise .idle 0 .joined))
    (fun t => t.line.join == .lineDown && t.budget.limp &&
      t.port.queue == [⟨.line, 1, 0, 0⟩]) = true := by decide +kernel

theorem test_pace_d_stuck_low : after (.paceDStuckLow low) (lined 2 (engine .waitRise .frame 8 .joined))
    (fun t => t.line.join == .lineDown && t.line.lowRun == 9 &&
      t.port.queue == [⟨.line, 2, 0, 0⟩]) = true := by decide +kernel

theorem test_pressed_but_high : after (.pressedButHigh .paceB idle)
    (lined 2 { engine .lowHalf .idle 0 .listen with pbDrv := true })
    (fun t => t.line.join == .lineDown && t.port.queue == [⟨.line, 3, 0, 0⟩]) = true := by
  decide +kernel

theorem test_round_start : after (.roundStart idle)
    (lined 2 { engine .waitFall .idle 0 .joined with lastMidHigh := true, keepaliveDue := true })
    (fun t => t.line.driveLeft == 4 && t.line.pdDrv) = true := by decide +kernel

theorem test_keepalive_expiry : after .keepaliveExpiry (station 2)
    (fun t => t.line.keepaliveDue && t.line.keepalive == none) = true := by decide +kernel

theorem test_start_frame_event : after (.startFrameEvent low) (lined 2 (engine .waitRise .frame 3 .joined))
    (fun t => t.line.lowRun == 4 && t.line.takesPart && t.line.image.sends && t.line.image.marks.hold &&
      t.line.image.count == 0) = true := by decide +kernel

theorem test_clash : after (.clash low) (inSlots 2 (3 * 99))
    (fun t => t.line.join == .clashed && !t.line.image.sends && t.budget.limp &&
      t.port.queue == [⟨.line, 6, 1, 0⟩]) = true := by decide +kernel

/-- A station that won the key field and then clashes in its band has won it (R31, R40). -/
theorem test_clash_keeps_the_win :
    (let s := inSlots 2 (3 * 99)
     after (.clash low)
       (s.setLine { s.line with keyIn := true, image := { s.line.image with key := 0xC2 } })
       (fun t => t.line.join == .clashed && (t.line.record .clashed).keyWon &&
         (t.line.record .clashed).ownClashed)) = true := by decide +kernel

theorem test_stop_frame_test : after (.stopFrameTest idle)
    ((inSlots 2 869).setLine { (inSlots 2 869).line with takesPart := true })
    (fun t => t.line.phase == .stop && t.line.driveLeft == 3 && t.line.pdDrv) = true := by decide +kernel

theorem test_round_completion : after (.roundCompletion idle) ((ending 2 .joined 0 0).setView heardView)
    (fun t => t.line.roundCount == 6 && t.line.phase == .recovery && t.line.mode == .quiet &&
      t.view.u == 600 && t.budget.avail == 600 && t.ownGrant == 100) = true := by decide +kernel

theorem test_recovery_end : after (.recoveryEnd idle)
    (lined 2 { engine .waitFall .recovery 0 .joined with recBeat := 2, mode := .continuous })
    (fun t => t.line.recBeat == 0 && t.line.driveLeft == 4) = true := by decide +kernel

theorem test_round_discard : after (.roundDiscard low) (lined 2 (engine .waitRise .slots 0 .joined))
    (fun t => t.line.discards == 1 && t.line.phase == .resync && t.line.lowRun == 1) = true := by
  decide +kernel

theorem test_resync_stop_frame : after (.resyncStopFrame idle) (lined 2 (engine .waitRise .resync 3 .listen))
    (fun t => t.line.phase == .recovery && t.line.mode == .continuous && t.line.recBeat == 1) = true := by
  decide +kernel

theorem test_resync_idle : after (.resyncIdle idle)
    (lined 2 { engine .waitRise .resync 0 .listen with highRun := 879 })
    (fun t => t.line.phase == .idle && t.line.mode == .quiet) = true := by decide +kernel

theorem test_group_a_pass_end : after (.groupAPassEnd idle) (converting (station 1) .an3 100)
    (fun t => t.scan.aCount == 1 && t.scan.results.e3.value == 8 && t.scan.results.e0.value == -1000 &&
      t.scan.conv == some ⟨.an0, 0⟩) = true := by decide +kernel

theorem test_slow_pass_start : after (.slowPassStart idle) (lined 1 (engine .stopped .resync 0 .asleep))
    (fun t => t.scan.conv == some ⟨.an0, 0⟩ && t.scan.aNext == some .an1) = true := by decide +kernel

theorem test_slow_pass_end : after (.slowPassEnd idle)
    ({ converting (lined 1 (engine .stopped .resync 0 .asleep)) .an3 400 with wakeDet := ⟨true, true, true⟩ })
    (fun t => t.line.join == .listen && t.line.wakeDue && t.scan.angNeg.zone == .work) = true := by
  decide +kernel

theorem test_group_b_pass_end : after (.groupBPassEnd idle) (converting (station 2) .an4 512)
    (fun t => t.scan.results.e4.value == 511 && t.scan.bCount == 1 && t.budget.overCount == 0) = true := by
  decide +kernel

theorem test_conversion_end : after (.conversionEnd idle)
    ((converting (station 1) .an0 7).setScan { (converting (station 1) .an0 7).scan with aNext := some .an1 })
    (fun t => t.scan.work.w0 == 7 && t.scan.conv == some ⟨.an1, 0⟩ && t.scan.aNext == some .an2) = true := by
  decide +kernel

theorem test_settle_expiry : after .settleExpiry (station 2)
    (fun t => t.scan.settled && t.scan.settleMs == 64) = true := by decide +kernel

/-- A millisecond takes the settle timer to the one before SETTLE_MS and no further (R75, log 2). -/
theorem test_settle_waits : ∀ n ∈ [62, 63],
    (State.tick ((station 2).setScan { Scan.reset with settleMs := n })).scan =
      { Scan.reset with settleMs := 63 } := by decide +kernel

/-- A POLE with this POS record. -/
def poleWith (x : PoleState) : State :=
  (station 1).setPole { PoleWatch.reset with pos := { PoleWatch.reset.pos with st := x } }

theorem test_rewire_expiry : after (.rewireExpiry .pos) (poleWith (.rewiring 1))
    (fun t => t.pole.pos.st == .onWire && t.port.queue == [⟨.pole, 3, 0, 0⟩]) = true := by decide +kernel

theorem test_gap_allowance_expiry : after (.gapAllowanceExpiry .pos) (poleWith (.gap 60 1))
    (fun t => t.pole.pos.st == .dropped .timed && t.pole.arcCut && t.pole.arcMin == some 100 &&
      t.roleOutputs.e0) = true := by decide +kernel

theorem test_arc_cut_min_expiry : after .arcCutMinExpiry
    ((station 1).setPole { PoleWatch.reset with arcCut := true, arcMin := some 1, arcMs := 99 })
    (fun t => !t.pole.arcCut && t.port.queue == [⟨.pole, 33, 99, 0⟩]) = true := by decide +kernel

theorem test_trip_pulse_expiry : after .tripPulseExpiry
    ((station 2).setBudget { Budget.reset with trip := some 1 }) (fun t => !t.tripOut) = true := by
  decide +kernel

/-- A CAB with one RAISED entry, its sound delay running. -/
def cabRaised : State :=
  (station 5).setSlate { Slate.reset with entries := [⟨4, .k3, .raised, 9, 0, some 1⟩] }

theorem test_sound_delay_expiry : after (.soundDelayExpiry 4 .k3) cabRaised
    (fun t => t.slate.sounder && t.slate.minLeft == some 1000 && t.roleOutputs.e0) = true := by
  decide +kernel

theorem test_sound_min_expiry : after .soundMinExpiry
    ((station 5).setSlate { Slate.reset with sounder := true, minLeft := some 1, onMs := 999 })
    (fun t => !t.slate.sounder && t.port.queue == [⟨.slate, 8, 999, 0⟩]) = true := by decide +kernel

theorem test_e_cut_edge : after (.eCutEdge { idle with eCut := true })
    ((station 2).setCeil ⟨80, .running, false, false, false⟩)
    (fun t => t.ceil == ⟨0, .heldZero, true, false, false⟩ && t.port.queue == [⟨.ceiling, 0, 0, 0⟩]) =
    true := by decide +kernel

theorem test_full_in_edge : after (.fullInEdge { idle with ri0 := true }) (station 4)
    (fun t => t.pins.ri0) = true := by decide +kernel

theorem test_ack_in_press : after (.ackInPress { idle with ri0 := true }) (station 5)
    (fun t => t.slate.ackPending && t.slate.rearm == .disarmed) = true := by decide +kernel

theorem test_lower_in_edge : after (.lowerInEdge { idle with ri1 := true }) (station 5)
    (fun t => t.pins.ri1) = true := by decide +kernel

theorem test_layover_in_edge : after (.layoverInEdge idle) (lined 5 (engine .stopped .resync 0 .asleep))
    (fun t => t.line.join == .listen && t.line.wakeDue) = true := by decide +kernel

theorem test_wake_in_edge : after (.wakeInEdge { idle with wakeIn := true })
    (lined 2 (engine .stopped .resync 0 .asleep))
    (fun t => t.line.join == .listen && t.line.wakeDue && t.line.driver == .highHalf) = true := by
  decide +kernel

theorem test_line_wake : after (.lineWake low) (lined 2 (engine .stopped .resync 0 .asleep))
    (fun t => t.line.join == .listen && !t.line.wakeDue && t.line.ignoreRun) = true := by decide +kernel

theorem test_cfg_write_clamps : after (.cfgWrite 0x03 1500) (station 2)
    (fun t => t.port.settings.uFloor == 1022 && t.port.settings.uKnee == 1023) = true := by decide +kernel

theorem test_cfg_write_locked : after (.cfgWrite 0x03 500)
    ((station 2).setPort { Port.reset with locked := true })
    (fun t => t.port.refused && t.port.settings == Settings.default) = true := by decide +kernel

theorem test_cfg_lock : after .cfgLock (station 2) (fun t => t.port.locked && t.port.cd) = true := by
  decide +kernel

theorem test_demand : after (.demand 2000) ((station 2).setBudget
    { Budget.reset with grants := (Eight.all 0).set 2 50 })
    (fun t => t.port.demand == 1023 && t.ceil.st == .waiting) = true := by decide +kernel

theorem test_role_value : after (.roleValue 77) (station 4) (fun t => t.port.roleValue == 77) = true := by
  decide +kernel

theorem test_feeder_mask : after (.feederMask 0x05) (station 3)
    (fun t => t.feed.e0.st == .waiting && t.feed.e1.st == .off && t.feed.e2.st == .waiting &&
      t.port.queue == [⟨.feeder, 0, 1, 0⟩, ⟨.feeder, 2, 1, 0⟩]) = true := by decide +kernel

theorem test_snapshot : after (.snapshot 8 3) (station 2)
    (fun t => t.port.source == .snapshot && t.port.snap == [0x01, 0x90]) = true := by decide +kernel

theorem test_notices : after .notices ((station 2).setPort { Port.reset with source := .summary })
    (fun t => t.port.source == .notices && t.port.byteIdx == 0) = true := by decide +kernel

theorem test_summary : after .summary (station 2) (fun t => t.port.source == .summary) = true := by
  decide +kernel

theorem test_station_reset : after (.stationReset idle) (lined 2 (engine .waitFall .slots 0 .joined))
    (fun t => t.line.join == .listen && t.line.phase == .resync && t.line.driver == .waitFall) = true := by
  decide +kernel

theorem test_wake_command : after (.wakeCommand idle) (lined 2 (engine .stopped .resync 0 .asleep))
    (fun t => t.line.join == .listen && t.line.wakeDue && t.port.cd) = true := by decide +kernel

theorem test_command_intake : after (.commandIntake .demand) (station 2)
    (fun t => t.port.intake == some ⟨.demand, []⟩ && t.port.cd) = true := by decide +kernel

theorem test_unknown_command : after (.unknownCommand 0x99) (station 2)
    (fun t => t.port.refused && t.port.cd) = true := by decide +kernel

theorem test_parameter_byte_write : after (.parameterByteWrite 0x2C)
    ((station 2).setPort { Port.reset with cd := true, intake := some ⟨.demand, [0x01]⟩ })
    (fun t => t.port.demand == 300 && t.port.intake == none && !t.port.cd) = true := by decide +kernel

theorem test_status_read : after .statusRead
    ((station 2).setPort { Port.reset with cd := true, refused := true, locked := true })
    (fun t => t.port.dataOut == 0x25 && !t.port.refused) = true := by decide +kernel

/-- A station with one notice waiting. -/
def noticeWaits : State := (station 2).setPort { Port.reset with queue := [⟨.pole, 5, 1026, 300⟩] }

theorem test_notice_read : after .noticeRead noticeWaits
    (fun t => t.port.dataOut == 3 && t.port.byteIdx == 1 && t.port.headLatched) = true := by decide +kernel

theorem test_notice_read_last : after .noticeRead
    (noticeWaits.setPort { noticeWaits.port with byteIdx := 5, headLatched := true })
    (fun t => t.port.dataOut == 0x2C && t.port.queue == []) = true := by decide +kernel

theorem test_snapshot_read : after .snapshotRead
    ((station 2).setPort { Port.reset with source := .snapshot, snap := [1, 2], snapPtr := 1 })
    (fun t => t.port.dataOut == 2 && t.port.snapPtr == 2) = true := by decide +kernel

theorem test_summary_read : after .summaryRead ((station 2).setPort { Port.reset with source := .summary })
    (fun t => t.port.dataOut == 0x0F && t.port.summaryLow.isSome) = true := by decide +kernel

theorem test_beat : after (.beat low) (inSlots 2 0)
    (fun t => t.line.slotBeat == 1 && t.line.rx == 1 && t.line.driver == .lowHalf) = true := by
  decide +kernel

theorem test_mid_sample : after (.midSample low) (lined 2 (engine .waitRise .idle 0 .joined))
    (fun t => t.line.phase == .frame && t.line.lowRun == 1) = true := by decide +kernel

theorem test_tick : (match step { poleWith (.rewiring 9) with pending := [] } with
    | .next t => t.pole.pos.st == .rewiring 8 && t.line.keepalive == some 39
    | _ => false) = true := by decide +kernel

/-! ## The hypotheses of the statements are met: machine, beat and frames -/

theorem test_met_StepRunsTheFrontCommand :
    ((station 2).push .statusRead).pending = .statusRead :: [] := by decide

theorem test_met_StepOnAnEmptyQueueIsAMillisecond : State.reset.pending = [] ∧
    (poleWith (.gap 1500 1)).pole.pos.st = .gap 1500 1 ∧
    (poleWith (.rewiring 10)).pole.pos.st = .rewiring 10 ∧ (station 2).scan.settled = false ∧
    (station 2).line.join ≠ .asleep ∧
    (station 2).scan.settleMs + 1 < (station 2).port.settings.settleMs := by decide

theorem test_met_EveryCommandRunsAndKeepsTheQueue :
    ∀ st p, Instr.statusRead ≠ .powerOn st p := fun _ _ h => Instr.noConfusion h

theorem test_met_StationResetKeepsAndClears : (station 2).line.join ≠ .asleep ∧
    (station 2).hasCeiling = true ∧ (station 3).isAux = true ∧
    (lined 2 (engine .stopped .resync 0 .asleep)).line.join = .asleep := by decide

/-- The edge rows have an edge to run on, as another station's fall and as the station's own. -/
theorem test_met_edgeRow :
    edgeRow (.beat idle) idle (inSlots 2 868) ∧
    edgeRow (.highHalfExpiry idle) idle (lined 2 (engine .highHalf .idle 0 .joined)) := by
  unfold edgeRow; decide

theorem test_met_BeatInTheSlots : ∀ n ∈ [0, 1, 99, 867, 868],
    (inSlots 2 n).line.phase = .slots ∧ (inSlots 2 n).line.driveLeft = 0 ∧
    (inSlots 2 n).line.recBeat = 0 ∧ (inSlots 2 n).line.slotBeat < 869 ∧
    edgeRow (.beat idle) idle (inSlots 2 n) ∧ ((inSlots 2 n).line.pdDrv && idle.pdHigh) = false ∧
    ((inSlots 2 n).line.image.sends && inBand (inSlots 2 n).straps.stn.val ((inSlots 2 n).line.slotBeat / 3) &&
      !idle.pdHigh && !(inSlots 2 n).line.pdDrv) = false := by
  unfold edgeRow; decide +kernel

/-- The three starts of an edge, and a frame of its own that goes on. -/
theorem test_met_StartFramesLastFourBeats :
    (let s := lined 2 { engine .waitFall .idle 0 .joined with lastMidHigh := true, keepaliveDue := true }
     edgeRow (.beat idle) idle s ∧ s.line.edgeDue = true ∧ s.line.driveLeft = 0 ∧ s.line.recBeat = 0 ∧
       s.line.phase ≠ .slots ∧ s.startReason = true) ∧
    (∀ n ∈ [1, 3], let s := lined 2 { engine .waitFall .frame n .lineDown with wakeDue := true }
     edgeRow (.beat idle) idle s ∧ s.line.driveLeft = 0 ∧ s.line.recBeat = 0 ∧ s.startReasonBut = true) ∧
    (let s := lined 2 { engine .waitFall .resync 0 .lineDown with lastMidHigh := true, keepaliveDue := true }
     edgeRow (.beat idle) idle s ∧ s.line.edgeDue = true ∧ s.line.driveLeft = 0 ∧ s.line.recBeat = 0) ∧
    (let s := lined 2 { engine .waitFall .stop 2 .joined with driveLeft := 1 }
     edgeRow (.beat idle) idle s ∧ s.line.recBeat = 0 ∧ 1 ≤ s.line.driveLeft ∧ s.line.phase = .stop) ∧
    (let s := lined 2 { engine .waitFall .frame 4 .joined with driveLeft := 1 }
     edgeRow (.beat idle) idle s ∧ s.line.phase = .frame ∧ 4 ≤ s.line.lowRun) ∧
    (let s := lined 2 { engine .waitFall .idle 0 .joined with driveLeft := 4 }
     edgeRow (.beat idle) idle s ∧ 2 ≤ s.line.driveLeft ∧ s.line.phase ≠ .slots) := by
  unfold edgeRow; decide +kernel

/-- A station awaiting the rise of PACE-B in this phase with this run. -/
def sampling (ph : Phase) (run : Nat) : State := lined 2 (engine .waitRise ph run .joined)

theorem test_met_MidSampleCountsTheRun :
    (sampling .idle 0).line.driver = .waitRise ∧ (sampling .idle 0).line.driveLeft = 0 ∧
    (sampling .recovery 0).line.phase = .recovery ∧ idle.pdHigh = true ∧ low.pdHigh = false ∧
    (∀ n ∈ [1, 7], (sampling .frame n).line.lowRun ≠ 3 ∧ (sampling .frame n).line.lowRun < 8) ∧
    (sampling .frame 3).line.lowRun < 4 ∧ 4 ≤ (sampling .frame 4).line.lowRun ∧
    (sampling .slots 0).line.driveLeft = 0 ∧ (sampling .stop 7).line.lowRun < 8 := by decide

/-- The slots of an image at position 2, read one by one. -/
def readBack (im : Image) : BitVec 290 :=
  (List.range 290).foldl (fun rx k => shiftIn rx (im.bitAt 2 k)) 0

theorem test_met_AnImageReadBackIsTheImage :
    (sentImage Marks.empty).band = some ⟨true, 2, false, 2, 100, 0, Alarms.none⟩ ∧
    (∀ slot, slot < 290 → (readBack (sentImage Marks.empty)).getMsbD slot =
      (sentImage Marks.empty).bitAt 2 slot) := by decide +kernel

/-- A station at the sample that brings the low run to 4. -/
def fourth (role : BitVec 3) (ph : Phase) (j : JoinState) : State := lined role (engine .waitRise ph 3 j)

theorem test_met_StartFrameEventLatchesTheImage :
    sampleRow (.startFrameEvent low) (.startFrameEvent low) low (fourth 2 .frame .joined) ∧
    low.pdHigh = false ∧ (fourth 2 .frame .joined).line.lowRun = 3 ∧
    (fourth 2 .resync .listen).line.phase = .resync ∧ (fourth 2 .resync .listen).line.ignoreRun = false ∧
    (fourth 2 .frame .joined).budget.limp = false := by
  unfold sampleRow; decide +kernel

/-- A LINE_DOWN station at its start frame event, with this limp grant set, demand and ceiling. -/
def limping (role : BitVec 3) (c d : Nat) (st : CeilState) : State :=
  { fourth role .frame .lineDown with
    budget := { Budget.reset with limp := true, kind := .limp, avail := 80, remainder := 80 }
    ceil := ⟨c, st, false, false, false⟩
    port := { Port.reset with demand := d } }

theorem test_met_LimpEvaluationAtAStartFrame :
    sampleRow (.midSample low) (.startFrameEvent low) low (limping 2 0 50 .waiting) ∧
    (limping 2 0 50 .waiting).budget.limp = true ∧ (limping 2 0 50 .waiting).hasCeiling = true ∧
    (limping 2 0 50 .waiting).ownGrant ≠ limpShare (limping 2 0 50 .waiting) (limping 2 0 50 .waiting).feed ∧
    ({ low with eCut := true } : Pins).eCut = true ∧
    0 < limpShare (limping 2 0 50 .waiting) (limping 2 0 50 .waiting).feed ∧
    limpShare (limping 2 0 0 .waiting) (limping 2 0 0 .waiting).feed = 0 ∧
    limpShare (limping 2 60 50 .running) (limping 2 60 50 .running).feed < 60 ∧
    30 ≤ limpShare (limping 2 30 50 .running) (limping 2 30 50 .running).feed ∧
    (limping 3 0 0 .heldZero).hasCeiling = false ∧ (limping 3 0 0 .heldZero).isAux = true := by
  unfold sampleRow; decide +kernel

/-- Of three feeders of 40 A on a limp grant of 80 A the last is shed and fits no more; of 30 A it is restarted. -/
theorem test_met_LimpEvaluationAtAStartFrame_feeders :
    let f : Eight Feeder := ⟨⟨true, .on, 0⟩, ⟨true, .on, 0⟩, ⟨true, .on, 0⟩, ⟨false, .off, 0⟩, ⟨false, .off, 0⟩,
      ⟨false, .off, 0⟩, ⟨false, .off, 0⟩, ⟨false, .off, 0⟩⟩
    let nom : Eight Nat := Eight.all 40
    isShed nom f 80 2 = true ∧ isShed nom f 80 1 = false ∧
    (let g := shedTable nom f 80 7
     (g.get 2).st = .waiting ∧ (g.get 0).st ≠ .waiting ∧ (g.get 1).st ≠ .waiting ∧
       80 < energizedSum nom g + nom.get 2) ∧
    energizedSum (Eight.all 26) (f.set 2 ⟨true, .waiting, 0⟩) + 26 ≤ 80 ∧
    (shedTable (Eight.all 26) f 80 7) = f := by decide +kernel

theorem test_met_StopFrameIsTwoOrThreeBeats :
    edgeRow (.beat idle) idle (inSlots 2 869) ∧ (inSlots 2 869).line.edgeDue = true ∧
    (inSlots 2 869).line.phase = .slots ∧ (inSlots 2 869).line.slotBeat = 869 ∧
    (inSlots 2 869).line.driveLeft = 0 ∧ (inSlots 2 869).line.recBeat = 0 := by
  unfold edgeRow; decide +kernel

theorem test_met_RecoveryEndsByMode :
    (let s := lined 2 { engine .waitFall .recovery 0 .joined with recBeat := 1 }
     s.line.driveLeft = 0 ∧ edgeRow (.beat idle) idle s ∧ s.line.recBeat = 1 ∧ s.line.phase = .recovery) ∧
    (let s := lined 2 { engine .waitFall .recovery 0 .joined with recBeat := 2 }
     s.line.driveLeft = 0 ∧ s.line.edgeDue = true ∧ s.line.recBeat = 2 ∧ s.line.phase = .recovery) ∧
    (let s := lined 2 { engine .waitFall .frame 1 .joined with recBeat := 2 }
     s.line.edgeDue = true ∧ s.line.phase = .frame ∧ s.line.lowRun = 1) := by
  unfold edgeRow; decide +kernel

/-- A station in RESYNC with these runs of low and high samples. -/
def resyncing (lows highs : Nat) : State :=
  lined 2 { engine .waitRise .resync lows .listen with highRun := highs }

theorem test_met_ResyncFindsTheRoundAgain :
    (resyncing 2 0).line.driver = .waitRise ∧ (resyncing 2 0).line.phase = .resync ∧
    (resyncing 2 0).line.driveLeft = 0 ∧ (resyncing 2 0).line.ignoreRun = false ∧
    (resyncing 3 0).line.lowRun = 3 ∧
    (resyncing 4 878).line.lowRun ≠ 2 ∧ (resyncing 4 878).line.lowRun ≠ 3 ∧
    (resyncing 4 878).line.highRun < 879 ∧ 879 ≤ (resyncing 0 879).line.highRun ∧
    (resyncing 7 0).line.lowRun < 8 ∧ (resyncing 7 0).line.lowRun ≠ 3 ∧
    ((resyncing 1 0).setLine { (resyncing 1 0).line with ignoreRun := true }).line.ignoreRun = true := by
  decide

/-- The first high sample after a line wake ends the ignoring and is the first high sample of RESYNC. -/
theorem test_ignored_run_ends :
    (let s := resyncing 0 0
     after (.midSample idle) (s.setLine { s.line with ignoreRun := true })
       (fun t => t.line.phase == .resync && !t.line.ignoreRun && t.line.highRun == 1)) = true := by decide +kernel

/-- At 879 high samples counted it also reads the line idle. -/
theorem test_met_ResyncFindsTheRoundAgain_ignored : ∀ n ∈ [878, 879],
    let l : Line := { (resyncing 0 n).line with ignoreRun := true }
    l.driver = .waitRise ∧ l.phase = .resync ∧ l.driveLeft = 0 ∧ l.ignoreRun = true ∧
      (l.highRun < 879 ↔ n = 878) ∧ idle.pdHigh = true := by decide

theorem test_met_DiscardGivesUpTheRound :
    sampleRow (.roundDiscard low) (.roundDiscard low) low (sampling .slots 0) ∧
    ((sampling .slots 0).line.phase = .slots ∧ low.pdHigh = false) ∧
    (∀ n ∈ [0, 1], (sampling .stop n).line.phase = .stop ∧ idle.pdHigh = true ∧
      (sampling .stop n).line.driveLeft = 0 ∧ (sampling .stop n).line.lowRun < 2) ∧
    (sampling .slots 0).line.discards < 2 ∧
    2 ≤ (lined 2 { engine .waitRise .slots 0 .joined with discards := 2 }).line.discards ∧
    (lined 2 { engine .waitRise .slots 0 .lineDown with discards := 2 }).line.join = .lineDown := by
  unfold sampleRow; decide +kernel

theorem test_met_LineFaultEntersLineDown_stuck_b :
    faultRow (.paceBStuckLow lowB) lowB (sampling .idle 0) 1 0 .waitRise false false ∧
    (sampling .idle 0).line.join ≠ .lineDown ∧
    (lined 2 (engine .waitRise .idle 0 .lineDown)).line.join = .lineDown := by
  unfold faultRow sampleRow edgeRow; decide +kernel

theorem test_met_LineFaultEntersLineDown_stuck_d : ∀ ph ∈ [Phase.frame, .stop, .resync],
    faultRow (.paceDStuckLow low) low (sampling ph 8) 2 9 .highHalf false false := by
  unfold faultRow sampleRow edgeRow; decide +kernel

theorem test_met_LineFaultEntersLineDown_high_b :
    let s := lined 2 { engine .lowHalf .idle 0 .listen with pbDrv := true }
    ∀ i ∈ [Instr.lowHalfExpiry idle, .pressedButHigh .paceB idle],
      faultRow i idle s 3 0 .waitRise false false := by
  unfold faultRow sampleRow edgeRow; decide +kernel

theorem test_met_LineFaultEntersLineDown_high_frame :
    let s := lined 2 { engine .waitRise .frame 1 .joined with driveLeft := 3 }
    ∀ i ∈ [Instr.midSample idle, .pressedButHigh .paceDFrame idle],
      faultRow i idle s 4 0 .highHalf false true := by
  unfold faultRow sampleRow edgeRow; decide +kernel

theorem test_met_LineFaultEntersLineDown_high_press :
    let s := lined 2 { engine .waitFall .slots 0 .joined with slotBeat := 867, pdDrv := true }
    ∀ i ∈ [Instr.beat idle, .pressedButHigh .paceDPress idle],
      faultRow i idle s 4 0 .lowHalf true false := by
  unfold faultRow sampleRow edgeRow; decide +kernel

/-- The first and the last slot of the band of position 2. -/
theorem test_met_ClashStopsSendingAndEntersLimp : ∀ slot ∈ [98, 129],
    edgeRow (.beat low) low (inSlots 2 (3 * slot)) ∧ (inSlots 2 (3 * slot)).line.edgeDue = true ∧
    (inSlots 2 (3 * slot)).line.phase = .slots ∧ (inSlots 2 (3 * slot)).line.slotBeat % 3 = 0 ∧
    (inSlots 2 (3 * slot)).line.image.sends = true ∧
    34 + 32 * (inSlots 2 (3 * slot)).straps.stn.val ≤ (inSlots 2 (3 * slot)).line.slotBeat / 3 ∧
    (inSlots 2 (3 * slot)).line.slotBeat / 3 < 66 + 32 * (inSlots 2 (3 * slot)).straps.stn.val ∧
    low.pdHigh = false ∧ (inSlots 2 (3 * slot)).line.pdDrv = false ∧
    (inSlots 2 (3 * slot)).line.driveLeft = 0 ∧ (inSlots 2 (3 * slot)).line.recBeat = 0 := by
  unfold edgeRow; decide +kernel

/-! ## The hypotheses of the statements are met: a completed round -/

theorem test_met_completionRow :
    (∀ i ∈ [Instr.midSample idle, .roundCompletion idle],
      completionRow i idle (ending 2 .joined 0 0)) ∧ staysAwake (ending 2 .joined 0 0) := by
  unfold completionRow sampleRow staysAwake; decide +kernel

/-- A sample that completes a round finds every join state but ASLEEP, and both ends of the back-off. -/
theorem test_met_CompletionMovesLineAndJoin :
    ∀ j ∈ [JoinState.listen, .joining, .joined, .clashed, .lineDown],
      completionRow (.midSample idle) idle (ending 2 j 0 0) ∧ staysAwake (ending 2 j 0 0) ∧
      (ending 2 j 0 0).line.join = j ∧ (ending 2 j 0 0).line.backoff < 15 ∧
      15 ≤ ({ (ending 2 j 0 0).line with backoff := 15 } : Line).backoff := by
  unfold completionRow sampleRow staysAwake; decide +kernel

/-- The round of position 0 and 2 against entries in every state. -/
theorem test_met_EachEntryMovesByItsHearing :
    (let b := rxBand (ending 2 .joined 0 0).line.rx
     ((b 0).present = true ∧ 1 ≤ (b 0).role.toNat ∧ (b 0).role.toNat ≤ 5) ∧
       ¬((b 1).present = true ∧ 1 ≤ (b 1).role.toNat ∧ (b 1).role.toNat ≤ 5)) ∧
    ((ending 2 .joined 0 0).view.entries.get 0).st = .absent ∧
    (heardView.entries.get 0).st = .present ∧
    (heardView.entries.get 0).role = (rxBand (ending 2 .joined 0 0).line.rx 0).role.toNat ∧
    (∀ st ∈ [EntryState.absent, .heardOnce, .present, .silent], ∀ n ∈ [0, 1, 2],
      ({ PeerEntry.cleared with st := st, miss := n } : PeerEntry).st = st) := by decide +kernel

/-- The round completed by a station in this join state that had heard the others before. -/
def heardEnd (role : BitVec 3) (j : JoinState) (marks key : Nat) : State :=
  (ending role j marks key).setView heardView

theorem test_met_PublishedConditionsFollowTheEntries :
    completionRow (.midSample idle) idle (heardEnd 2 .joined 0 0) ∧ staysAwake (heardEnd 2 .joined 0 0) ∧
    after (.midSample idle) (heardEnd 2 .joined 0 0) (fun t => t.view.pole == some 0 && t.view.u == 600) ∧
    after (.midSample idle) (ending 2 .joined 0 0) (fun t => t.view.pole == none) := by
  unfold completionRow sampleRow staysAwake; decide +kernel

theorem test_met_BudgetEvaluationSharesAvailability :
    (heardEnd 2 .listen 0 0).line.join ≠ .joining ∧ (heardEnd 2 .listen 0 0).line.join ≠ .joined ∧
    (heardEnd 2 .joined 0 0).line.join = .joined ∧
    after (.midSample idle) (heardEnd 2 .joined 0 0)
      (fun t => t.ownGrant != (heardEnd 2 .joined 0 0).ownGrant) := by decide +kernel

theorem test_met_GrantsStayWithinAvailabilityAndClaims :
    completionRow (.midSample idle) idle (heardEnd 2 .joining 0 0) ∧ staysAwake (heardEnd 2 .joining 0 0) ∧
    (heardEnd 2 .joining 0 0).line.join = .joining := by
  unfold completionRow sampleRow staysAwake; decide +kernel

/-- A station that held a window of this length remaining, its round latched with or without INRUSH. -/
def holding (marks left : Nat) (inrush : Bool) : State :=
  let s := heardEnd 2 .joined marks 0
  { s with
    arb := ⟨3, some ⟨6, left, none⟩, .self⟩
    line := { s.line with image := sentImage { Marks.empty with inrush := inrush } } }

theorem test_met_RestartWindowAtACompletion_held :
    (holding 0 1 false).line.image.marks.inrush = false ∧
    (holding 2 2 true).line.image.marks.inrush = true ∧ (holding 2 2 true).arb.window = some ⟨6, 2, none⟩ ∧
    ((rxMarks (holding 4 1 true).line.rx).hold || (rxMarks (holding 4 1 true).line.rx).cut) = true ∧
    (let m := rxMarks (holding 2 1 true).line.rx
     (m.hold || m.cut || m.offWire || m.gap) = false) ∧
    completionRow (.midSample idle) idle (holding 2 1 true) ∧ staysAwake (holding 2 1 true) := by
  unfold completionRow sampleRow staysAwake; decide +kernel

/-- A candidate whose key won the round, with this feeder table and nominal currents. -/
def winning (role : BitVec 3) (f : Eight Feeder) (amps : Nat) : State :=
  let s := heardEnd role .joined 0 0xC2
  { s with
    feed := f
    port := { Port.reset with settings := { Settings.default with nominal := Eight.all amps } }
    line := { s.line with
      keyIn := true
      image := { sentImage Marks.empty with key := 0xC2 } } }

/-- The window is won, by a DRIVE and by an AUX whose next feeder fits or does not. -/
theorem test_met_RestartWindowAtACompletion_free :
    (winning 2 (Eight.all ⟨false, .off, 0⟩) 0).arb.window = none ∧
    (winning 2 (Eight.all ⟨false, .off, 0⟩) 0).contends = true ∧
    (let s := winning 2 (Eight.all ⟨false, .off, 0⟩) 0
     let m := rxMarks s.line.rx
     s.line.image.key ≠ 0 ∧ s.line.keyIn = true ∧
       (!m.inrush && !(m.hold || m.cut || m.offWire || m.gap)) = true ∧ s.line.join = .joined ∧
       s.isAux = false) ∧
    (heardEnd 2 .joined 0 0).line.image.key = 0 ∧
    (∀ amps ∈ [0, 255], (winning 3 (Eight.all ⟨true, .waiting, 0⟩) amps).isAux = true ∧
      (winning 3 (Eight.all ⟨true, .waiting, 0⟩) amps).nextFeeder = some 0) ∧
    after (.midSample idle) (winning 3 (Eight.all ⟨true, .waiting, 0⟩) 100)
      (fun t => decide (0 + 100 ≤ t.ownGrant) && t.arb.window.isSome) ∧
    after (.midSample idle) (winning 3 (Eight.all ⟨true, .waiting, 0⟩) 101)
      (fun t => !decide (0 + 101 ≤ t.ownGrant) && t.arb.window.isNone) := by decide +kernel

/-- A DRIVE with this ceiling and demand at the end of a round with these marks. -/
def driving (marks c d : Nat) (st : CeilState) : State :=
  { heardEnd 2 .joined marks 0 with
    ceil := ⟨c, st, false, false, false⟩
    port := { Port.reset with demand := d } }

theorem test_met_CeilingAtACompletion :
    completionRow (.midSample idle) idle (driving 0 50 100 .running) ∧
    staysAwake (driving 0 50 100 .running) ∧ (driving 0 50 100 .running).hasCeiling = true ∧
    (rxMarks (driving 8 50 100 .running).line.rx).cut = true ∧
    after (.midSample idle) (driving 0 50 100 .running)
      (fun t => !t.budget.limp && t.ceil == ⟨75, .running, false, false, true⟩) ∧
    after (.midSample idle) (driving 0 100 100 .running)
      (fun t => t.ownGrant == 100 && t.ceil.ceiling == 100) ∧
    after (.midSample idle) (driving 0 101 100 .running)
      (fun t => t.ownGrant == 100 && t.ceil.ceiling == 100) ∧
    after (.midSample idle) (driving 0 0 100 .heldZero) (fun t => t.ceil.st == .waiting) ∧
    after (.midSample idle) { holding 6 1 true with ceil := ⟨50, .ramping, false, false, false⟩ }
      (fun t => t.arb.window == none && t.ceil.ceiling == 0) ∧
    after (.midSample idle)
      { ending 2 .clashed 8 0 with budget := { Budget.reset with limp := true } }
      (fun t => t.budget.limp && t.ceil.limpCut) := by
  unfold completionRow sampleRow staysAwake; decide +kernel

/-- An AUX with these feeder states in F0 and F1, each of 60 A, in a TIER 1 station. -/
def feeding (marks : Nat) (a b : FeederState) : State :=
  { heardEnd 3 .joined marks 0 with
    feed := ((Eight.all ⟨false, .off, 0⟩).set 0 ⟨true, a, 0⟩).set 1 ⟨true, b, 0⟩
    port := { Port.reset with settings := { Settings.default with tier := 1, nominal := Eight.all 60 } } }

theorem test_met_FeedersAtACompletion :
    completionRow (.midSample idle) idle (feeding 0 .on .on) ∧ staysAwake (feeding 0 .on .on) ∧
    (feeding 0 .on .on).isAux = true ∧
    after (.midSample idle) (feeding 0 .on .on)
      (fun t => !t.budget.limp && t.feed.e0.st == .on && t.feed.e1.st == .waiting) ∧
    (rxMarks (feeding 8 .on .on).line.rx).cut = true ∧ (feeding 8 .on .on).port.settings.tier = 1 ∧
    (∀ st ∈ [FeederState.off, .waiting, .inrush, .on], (feeding 0 st .on).feed.e0.st = st) ∧
    after (.midSample idle) (winning 3 (Eight.all ⟨true, .waiting, 0⟩) 100)
      (fun t => t.feed.e0.st == .inrush) := by
  unfold completionRow sampleRow staysAwake; decide +kernel

/-- A window of F0 ends with it ON, or is abandoned with it WAITING, and the grant of 100 A sheds F1 of 60 A. -/
theorem test_met_FeedersAtACompletion_window :
    (∀ c ∈ [(0, FeederState.on), (128, .waiting)],
      (let s := feeding c.1 .inrush .on
       after (.midSample idle)
         { s with
           arb := ⟨3, some ⟨2, 1, some 0⟩, .self⟩
           line := { s.line with image := sentImage { Marks.empty with inrush := true } } }
         (fun t => t.arb.window == none && t.feed.e0.st == c.2)) = true) ∧
    isShed (Eight.all 60) (feeding 0 .on .on).feed 100 1 = true := by decide +kernel

/-- Entry to limp of a TIER 1 AUX in a window of F0: the window is dropped with F0, and the grant of 0 sheds F1. -/
theorem test_limp_entry_sheds :
    (let s := feeding 0 .inrush .on
     let u := { s with
       arb := ⟨3, some ⟨2, 1, some 0⟩, .self⟩
       line := { (inSlots 3 (3 * 99)).line with roundCount := 5 } }
     isShed u.port.settings.nominal (feedBack u) (limpShare u (feedBack u)) 1 = true ∧
     after (.clash low) u (fun t => t.feed.e0 == ⟨true, .waiting, 5⟩ && t.feed.e1 == ⟨true, .waiting, 5⟩ &&
       t.port.queue == [⟨.line, 6, 1, 5⟩, ⟨.window, 3, 256 + 9, 5⟩, ⟨.feeder, 0, 256 * 3 + 1, 5⟩,
         ⟨.feeder, 1, 256 * 4 + 1, 5⟩]) = true) := by decide +kernel

/-- A POLE with this POS record at the end of a round with these marks. -/
def poleEnding (marks : Nat) (x : PoleRec) (settled : Bool) : State :=
  let s := heardEnd 1 .joined marks 0
  { s with
    pole := { PoleWatch.reset with pos := x, neg := x }
    scan := { s.scan with settled := settled } }

theorem test_met_PoleWatchAtACompletion :
    let s := poleEnding 16 ⟨.gap 60 1, false, true, true, 0⟩ true
    let u := poleEnding 32 ⟨.dropped .timed, true, true, true, 0⟩ true
    completionRow (.midSample idle) idle s ∧ staysAwake s ∧ s.isPole = true ∧
    s.pole.pos.st = .gap 60 1 ∧ s.pole.neg.st = .gap 60 1 ∧ (rxMarks s.line.rx).lower = true ∧
    s.scan.settled = true ∧ s.pole.paused = false ∧ (rxMarks u.line.rx).ack = true ∧ u.pole.pos.ackable = true ∧
    u.pole.pos.unacked = true ∧ u.pole.neg.ackable = true ∧ u.pole.neg.unacked = true ∧
    (heardEnd 2 .joined 0 0).isPole = false := by
  unfold completionRow sampleRow staysAwake; decide +kernel

/-- A GAP record frozen by a layover stays in GAP under LOWER until the first settled pass end (R104, R105). -/
theorem test_frozen_gap_stays :
    (let s := poleEnding 16 ⟨.gap 60 1, false, true, true, 0⟩ true
     after (.midSample idle) (s.setPole { s.pole with paused := true })
       (fun t => t.pole.lowerHeard && t.pole.pos.st == .gap 60 1)) = true := by decide +kernel

theorem test_met_SlateAtACompletion :
    let s := heardEnd 5 .joined 32 0
    completionRow (.midSample idle) idle s ∧ staysAwake s ∧ s.isCab = true := by
  unfold completionRow sampleRow staysAwake; decide +kernel

/-- A slate whose entry has no condition any more: its SOUNDER goes OFF; a full one sounds. -/
theorem test_met_SlateAtACompletion_sounder :
    after (.midSample idle) { heardEnd 5 .joined 32 0 with
      slate := { Slate.reset with entries := [⟨4, .k3, .raised, 9, 0, none⟩], sounder := true, onMs := 7 }
      port := { Port.reset with settings := { Settings.default with latchMask := 0 } } }
      (fun t => t.slate.entries == [] && !t.slate.sounder && !t.slate.full) = true := by decide +kernel

/-- Every condition of eight SILENT peers: 12 are entered, 28 are left, and SOUNDER is ON. -/
theorem test_met_SlateAtACompletion_full :
    (let s := ending 5 .joined 0 0
     after (.midSample idle) { s with
       line := { s.line with rx := readOf 0 0 5 [] }
       view := { heardView with
         entries := Eight.all ⟨.silent, 4, 1, false, ⟨true, true, true, true, true⟩, 0, some 0, 0, some 0, 0, 0, 3⟩ } }
       (fun t => t.slate.full && t.slate.sounder && t.slate.entries.length == 12 &&
         t.port.queue.contains ⟨.slate, 5, 28, 5⟩ && t.port.queue.contains ⟨.slate, 7, 0, 5⟩)) = true := by
  decide +kernel

/-- A LAPSED entry whose condition returns is RAISED again, and SOUNDER sounds at once at a delay of 0. -/
theorem test_met_SlateAtACompletion_again :
    (let s := ending 5 .joined 0 0
     after (.midSample idle) { s with
       line := { s.line with rx := readOf 0 0 5 [] }
       view := { heardView with
         entries := heardView.entries.set 4
           ⟨.silent, 4, 1, false, ⟨false, false, false, true, false⟩, 0, some 0, 0, some 0, 0, 0, 3⟩ }
       slate := { Slate.reset with entries := [⟨4, .k3, .lapsed, 9, 0, none⟩] }
       port := { Port.reset with settings := { Settings.default with soundDelay := 0 } } }
       (fun t => t.slate.entries == [⟨4, .k3, .raised, 9, 1, none⟩] && t.slate.sounder)) = true := by
  decide +kernel

/-- A station that has read one LAYOVER round and reads a second. -/
def layover (role : BitVec 3) : State :=
  let s := ending role .joined 1 0
  s.setLine { s.line with layoverCount := 1 }

theorem test_met_SecondLayoverRoundEntersAsleep :
    completionRow (.midSample idle) idle (layover 2) ∧ (rxMarks (layover 2).line.rx).layover = true ∧
    (rxMarks (layover 2).line.rx).hold = false ∧ 1 ≤ (layover 2).line.layoverCount ∧
    idle.wakeIn = false ∧ (layover 2).isCab = false ∧ (layover 5).isCab = true ∧ idle.ri2 = false ∧
    ({ idle with wakeIn := true } : Pins).wakeIn = true ∧ (layover 1).isPole = true ∧
    (layover 2).hasCeiling = true ∧ (layover 3).isAux = true := by
  unfold completionRow sampleRow; decide +kernel

/-- A CAB that sounds when it falls asleep: the notice of the entry, stamped with the count after the round. -/
theorem test_asleep_notices :
    (let s := layover 5
     after (.midSample { idle with ri2 := true })
       { s with slate := { s.slate with sounder := true, onMs := 40, minLeft := some 9 } }
       (fun t => t.line.join == .asleep && !t.slate.sounder && t.port.queue.contains ⟨.slate, 8, 40, 6⟩)) = true := by
  decide +kernel

theorem test_met_SecondLayoverRoundEntersAsleep_before :
    after (.midSample idle) { layover 2 with line := { (layover 2).line with layoverCount := 0 } }
      (fun u => u.line.join == .joined && u.line.layoverCount == 1) = true ∧
    (feeding 0 .inrush .on).isAux = true ∧ (feedBack (feeding 0 .inrush .on)).e1.st.energized = true := by
  decide +kernel

/-- A CAB whose slate is full sounds at the wake. -/
theorem test_wake_sounds :
    (let s := lined 5 (engine .stopped .resync 0 .asleep)
     after (.wakeInEdge { idle with wakeIn := true }) { s with slate := { s.slate with full := true } }
       (fun t => t.slate.sounder && t.slate.minLeft == some 1000 &&
         t.port.queue.contains ⟨.slate, 7, 0, 0⟩)) = true := by
  decide +kernel

theorem test_met_WakesOfASleepingStation :
    (lined 5 (engine .stopped .resync 0 .asleep)).line.join = .asleep ∧
    ({ idle with wakeIn := true } : Pins).wakeIn = true ∧
    (lined 5 (engine .stopped .resync 0 .asleep)).isCab = true ∧ idle.ri2 = false ∧
    (station 5).line.join ≠ .asleep ∧ low.pdHigh = false := by decide

/-! ## The hypotheses of the statements are met: the image, scanner and pole watch -/

theorem test_met_latched_image : ∀ j ∈ [JoinState.joining, .joined],
    sampleRow (.startFrameEvent low) (.startFrameEvent low) low (fourth 2 .frame j) ∧ low.pdHigh = false ∧
    (fourth 2 .frame j).line.lowRun = 3 ∧ (fourth 2 .frame j).line.phase = .frame ∧
    (fourth 2 .frame j).line.join = j := by
  unfold sampleRow; decide +kernel

/-- A candidate for the restart key, and a station that is none. -/
theorem test_met_LatchedKeyIsTheCandidates :
    let s := { fourth 2 .frame .joined with ceil := ⟨0, .waiting, false, false, false⟩ }
    let u := { fourth 3 .frame .joined with feed := Eight.all ⟨true, .waiting, 0⟩ }
    (s.arb.window = none ∧ s.hasCeiling = true ∧ s.ceil.st = .waiting) ∧
    (u.isAux = true ∧ (u.feed.get 0).st = .waiting ∧ (∀ l : Fin 8, l < 0 → (u.feed.get l).st ≠ .waiting) ∧
      u.energizedSum + u.port.settings.nominal.get 0 ≤ u.ownGrant) ∧
    ¬((fourth 2 .frame .joined).ceil.st = .waiting) ∧ (fourth 2 .frame .joined).isAux = false := by
  decide +kernel

/-- The scanner of a POLE while this channel converts, with a next channel and a held group-B value. -/
def scanning (c : Channel) (next : Option Channel) (held : Option Raw) (waits : Bool) : State :=
  let s := converting (station 1) c 1023
  s.setScan { s.scan with aNext := next, bHeld := held, bWaiting := waits }

theorem test_met_ConversionsFollowOneAnother :
    (∀ c ∈ [Channel.an0, .an1, .an2], (scanning c none none false).scan.conv = some ⟨c, 1023⟩) ∧
    (scanning .an0 (some .an1) (some 5) false).scan.bHeld = some 5 ∧
    (scanning .an0 (some .an1) none false).scan.aNext = some .an1 ∧
    (scanning .an2 none none false).scan.aNext = none ∧
    (scanning .an4 none none true).scan.conv = some ⟨.an4, 1023⟩ ∧
    (scanning .an4 none none true).scan.bHeld = none ∧
    (scanning .an4 none none true).scan.bWaiting = true ∧
    (scanning .an4 (some .an3) none false).scan.bWaiting = false := by decide

theorem test_met_PassEndDecidesAndWrites :
    (scanning .an3 none none false).scan.conv = some ⟨.an3, 1023⟩ ∧
    (scanning .an3 none none false).line.join ≠ .asleep ∧
    (scanning .an3 none (some 9) false).scan.bHeld = some 9 ∧
    (scanning .an3 none none false).scan.settled = false := by decide

/-- A sleeping POLE, its scanner in this conversion. -/
def sleepingPole (conv : Option Conv) : State :=
  let s := lined 1 (engine .stopped .resync 0 .asleep)
  { s with
    scan := { s.scan with conv := conv, work := ⟨0, 0, 200, 0⟩ }
    wakeDet := ⟨true, true, false⟩ }

theorem test_met_SlowPassesWatchTheAngles :
    (sleepingPole none).line.join = .asleep ∧ (sleepingPole none).isPole = true ∧
    (sleepingPole none).scan.passRunning = false ∧ (sleepingPole none).scan.bHeld = none ∧
    (sleepingPole (some ⟨.an2, 0⟩)).scan.passRunning = true ∧
    (sleepingPole (some ⟨.an3, 50⟩)).scan.conv = some ⟨.an3, 50⟩ ∧
    after (.slowPassEnd idle) (sleepingPole (some ⟨.an3, 50⟩))
      (fun t => t.line.join == .listen && t.scan.angPos.zone == .work) ∧
    after (.slowPassEnd idle) { sleepingPole (some ⟨.an3, 50⟩) with wakeDet := ⟨true, false, false⟩ }
      (fun t => t.line.join == .asleep && t.wakeDet.stowedNeg) := by decide +kernel

theorem test_met_TimersExpire :
    (lined 2 (engine .lowHalf .idle 0 .joined)).line.driver = .lowHalf ∧ lowB.pbHigh = false ∧
    (lined 2 (engine .lowHalf .idle 0 .asleep)).line.join = .asleep ∧
    (station 2).scan.settled = false ∧ (station 2).line.join ≠ .asleep ∧
    (station 2).line.keepalive ≠ none ∧
    ((station 2).setBudget { Budget.reset with trip := some 1 }).budget.trip ≠ none ∧
    ((station 1).setPole { PoleWatch.reset with arcMin := some 1 }).pole.arcMin ≠ none := by decide

/-- A settled POLE at a pass end: POS in this state, this angle and shoe read, LOWER heard or not. -/
def passing (x : PoleState) (z : Raw) (live lower : Bool) (speed : Nat) : State :=
  let s := converting (poleWith x) .an3 100
  { s with
    pole := { s.pole with lowerHeard := lower, heldSpeed := speed }
    scan := { s.scan with
      settled := true
      shoePos := ⟨live, 0⟩
      work := ⟨if live then 1000 else 512, 512, z, 0⟩ } }

theorem test_met_PoleTablesAtASettledPassEnd :
    ∀ x ∈ [PoleState.lowered, .seeking, .rewiring 5, .onWire, .gap 60 30, .dropped .timed, .retrieved .angle],
    ∀ z ∈ [(0 : Raw), 400, 1023],
      (passing x z true false 0).scan.conv = some ⟨.an3, 100⟩ ∧
      (passing x z true false 0).line.join ≠ .asleep ∧ (passing x z true false 0).isPole = true ∧
      (passing x z true false 0).scan.settled = true ∧ (passing x z true false 0).pole.pos.st = x := by
  decide +kernel

/-- A pole on the wire that loses contact runs a gap, the longest at a stop; one that rises is dropped; and a
release of ARC_CUT is reached. -/
theorem test_met_PoleTablesAtASettledPassEnd_rows :
    after (.groupAPassEnd idle) (passing .onWire 400 false false 0)
      (fun t => t.pole.pos.st == .gap 1500 1500) ∧
    after (.groupAPassEnd idle) (passing .onWire 400 false false 900)
      (fun t => t.pole.pos.st == .gap 100 100) ∧
    after (.groupAPassEnd idle) (passing (.gap 60 30) 400 false true 0) (fun t => t.pole.pos.st == .seeking) ∧
    after (.groupAPassEnd idle) (passing .onWire 0 false false 0)
      (fun t => t.pole.pos.st == .dropped .angle && t.pole.arcCut) ∧
    after (.groupAPassEnd idle)
      { passing .lowered 0 false false 0 with pole := { PoleWatch.reset with arcCut := true, arcMs := 12 } }
      (fun t => !t.pole.arcCut && t.port.queue == [⟨.pole, 33, 12, 0⟩]) := by decide +kernel

theorem test_met_PoleTimersExpire :
    (poleWith (.rewiring 1)).isPole = true ∧ (poleWith (.rewiring 1)).pole.paused = false ∧
    ((poleWith (.rewiring 1)).pole.record .pos).st = .rewiring 1 ∧
    ((poleWith (.gap 20 1)).pole.record .pos).st = .gap 20 1 := by decide

/-! ## The hypotheses of the statements are met: budget, sounder and role inputs -/

/-- A settled station at a group-B pass end, with this raw, grant of 100 A and counts. -/
def measuring (role : BitVec 3) (r : Raw) (n k : Nat) (od : Bool) : State :=
  let s := converting (station role) .an4 r
  { s with
    scan := { s.scan with settled := true }
    budget := { Budget.reset with
      kind := .view, grants := (Eight.all 0).set 2 100, avail := 100, remainder := 0
      ownOverdraw := od, overCount := n, underCount := k, overCurrent := n } }

/-- The reading is at the grant, at the margin and one above it, with every count. -/
theorem test_met_OwnOverdrawCheck :
    (measuring 2 121 0 0 false).scan.conv = some ⟨.an4, 121⟩ ∧ (measuring 2 121 0 0 false).contends = true ∧
    ((measuring 2 121 0 0 false).scan.settled = true ∧ (measuring 2 121 0 0 false).budget.kind ≠ .none ∧
      (measuring 2 121 0 0 false).line.join ≠ .asleep) ∧ (station 2).budget.kind = .none ∧
    (∀ r ∈ [(100, 101), (119, 120), (120, 121), (121, 122)], min 1023 (r.2 * 1023 / 1024) = r.1) ∧
    (measuring 2 122 0 0 false).ownGrant + 20 < 121 ∧ (measuring 2 121 0 0 false).ownGrant < 120 ∧
    101 * 1023 / 1024 ≤ (measuring 2 101 0 1 true).ownGrant ∧ (measuring 2 101 0 1 true).budget.underCount < 2 ∧
    2 ≤ (measuring 2 101 0 2 true).budget.underCount ∧ (measuring 2 122 2 0 false).budget.overCount = 2 ∧
    (measuring 2 122 2 0 false).budget.ownOverdraw = false ∧ (measuring 2 122 2 0 false).hasCeiling = true ∧
    (measuring 3 122 2 0 false).isAux = true ∧
    (∀ st ∈ [FeederState.inrush, .on],
      ((Eight.all (⟨false, .off, 0⟩ : Feeder)).set 7 ⟨true, st, 0⟩ |>.get 7).st.energized = true) := by
  decide +kernel

theorem test_met_VehicleOvercurrentCheck :
    (measuring 1 142 2 0 false).scan.conv = some ⟨.an4, 142⟩ ∧ (measuring 1 142 2 0 false).isPole = true ∧
    (measuring 1 142 2 0 false).scan.settled = true ∧ (measuring 1 142 2 0 false).budget.kind ≠ .none ∧
    (measuring 1 142 2 0 false).line.join ≠ .asleep ∧ (station 1).scan.settled = false ∧
    141 * 1023 / 1024 ≤ (measuring 1 141 2 0 false).budget.avail + 40 ∧
    (measuring 1 142 2 0 false).budget.avail + 40 < 142 * 1023 / 1024 ∧
    (measuring 1 142 1 0 false).budget.overCurrent < 2 ∧ 2 ≤ (measuring 1 142 2 0 false).budget.overCurrent := by
  decide +kernel

theorem test_met_SounderTimersExpire : cabRaised.isCab = true ∧
    (∃ e ∈ cabRaised.slate.entries, e.delayRuns 4 .k3 = true) ∧ cabRaised.slate.sounder = false ∧
    ({ cabRaised.slate with sounder := true } : Slate).sounder = true ∧
    ({ cabRaised.slate with minLeft := some 1 } : Slate).minLeft ≠ none ∧
    (∃ e ∈ cabRaised.slate.entries, e.st = .raised) ∧
    ¬(∃ e ∈ (station 5).slate.entries, e.st = SlateState.raised) ∧ (station 5).slate.full = false := by
  decide

theorem test_met_RoleInputsActAtTheirEdges : idle.eCut = false ∧
    ({ idle with eCut := true } : Pins).eCut = true ∧ (station 2).hasCeiling = true ∧
    (⟨80, .running, false, false, false⟩ : Ceil).ceiling ≠ 0 ∧ (station 1).hasCeiling = false ∧
    (station 1).isAux = false ∧ (feeding 0 .on .off).isAux = true ∧
    (feeding 0 .on .off).port.settings.tier = 1 ∧ (station 3).port.settings.tier ≠ 1 ∧
    ({ idle with ri0 := true } : Pins).ri0 = true ∧ (station 4).isCab = false ∧
    (station 5).isCab = true := by decide

/-! ## The hypotheses of the statements are met: the local port -/

/-- Codes at the ends of each range of codes, and codes between them that name no setting. -/
theorem test_met_SettingsAreWrittenUntilTheLock :
    ({ Port.reset with locked := true } : Port).locked = true ∧ (station 2).port.locked = false ∧
    (∀ c ∈ [0, 10, 24, 31, 35, 43, 65, 75, 81, 255], settingRange c = none) ∧
    settingRange 1 = some (1, 3) ∧ settingRange 3 = some (0, 1022) ∧ settingRange 4 = some (1, 1023) ∧
    settingRange 18 = some (1, 2046) ∧ settingRange 19 = some (2, 2047) ∧ settingRange 20 = some (0, 88) ∧
    settingRange 21 = some (1, 89) ∧ settingRange 34 = some (8, 255) ∧
    (∀ c ∈ [48, 55], settingRange c = some (0, 255)) ∧ (∀ c ∈ [56, 63], settingRange c = some (1, 15)) ∧
    settingRange 80 = some (1, 32) ∧ (station 3).isAux = true ∧ (station 2).isAux = false ∧
    isShed (Eight.all 60) (feeding 0 .on .on).feed 100 1 = true ∧
    (station 5).straps.role.toNat = 5 ∧ (station 6).straps.role.toNat = 6 ∧
    (station 0).straps.role.toNat = 0 := by decide

/-- A DRIVE with this ceiling state and grant. -/
def granted (st : CeilState) (g : Nat) : State :=
  { station 2 with
    ceil := ⟨0, st, false, false, false⟩
    budget := { Budget.reset with grants := (Eight.all 0).set 2 g } }

theorem test_met_DemandAndRoleValue :
    (station 1).hasCeiling = false ∧ (granted .waiting 1).hasCeiling = true ∧
    (granted .waiting 1).ceil.st = .waiting ∧ min 1023 (0 : BitVec 16).toNat = 0 ∧
    (granted .heldZero 1).ceil.st = .heldZero ∧ (granted .heldZero 1).ceil.cutHeld = false ∧
    0 < min 1023 (1 : BitVec 16).toNat ∧ 0 < (granted .heldZero 1).ownGrant ∧
    (granted .heldZero 0).ownGrant = 0 := by decide

/-- An AUX whose window is of feeder 0. -/
def windowed : State :=
  { feeding 0 .inrush .on with arb := ⟨0, some ⟨4, 2, some 0⟩, .self⟩ }

theorem test_met_FeederMaskMovesRecords :
    (station 1).isAux = false ∧ windowed.isAux = true ∧ windowed.arb.window = some ⟨4, 2, some 0⟩ ∧
    (0x02 : Byte).getLsbD 0 = false ∧ (0x01 : Byte).getLsbD 0 = true ∧
    (windowed.feed.get 0).enable ≠ (0x02 : Byte).getLsbD 0 ∧
    (windowed.feed.get 1).enable = (0x02 : Byte).getLsbD 1 := by decide

theorem test_met_SnapshotCopiesTheRecord :
    (9 : Byte).toNat = 9 ∧ (8 : Byte).toNat ≤ 8 ∧ (station 1).isPole = true ∧ (station 2).isPole = false ∧
    (station 3).isAux = true ∧ (station 2).isAux = false ∧ cabRaised.isCab = true ∧
    cabRaised.slate.entries[0]? = some ⟨4, .k3, .raised, 9, 0, some 1⟩ ∧
    cabRaised.slate.entries.length ≤ 1 ∧ (station 2).isCab = false ∧ (station 2).hasCeiling = true ∧
    (station 1).hasCeiling = false ∧ (7 : Byte).toNat = (7 : Fin 8).val ∧ 8 ≤ (8 : Byte).toNat ∧
    (1 : Byte).toNat ≠ 0 ∧ 2 ≤ (2 : Byte).toNat ∧
    (station 2).port.settings.get 63 = some 4 ∧ (station 2).port.settings.get 0 = none := by decide

/-- A port with the two-byte snapshot selected, at this pointer. -/
def snapped (n : Nat) : State :=
  (station 2).setPort { Port.reset with source := .snapshot, snap := [1, 2], snapPtr := n }

theorem test_met_SnapshotAndSummaryAreReadInOrder :
    (snapped 1).port.source = .snapshot ∧ (snapped 1).port.snapPtr < (snapped 1).port.snap.length ∧
    (snapped 2).port.snapPtr = (snapped 2).port.snap.length ∧
    ({ Port.reset with source := .summary } : Port).summaryLow = none ∧
    ({ Port.reset with source := .summary, summaryLow := some 0x0FC1 } : Port).summaryLow = some 0x0FC1 := by
  decide

theorem test_met_NoticesAreReadByteByByte :
    (station 2).port.source = .notices ∧ (station 2).port.queue = [] ∧ (station 2).port.byteIdx = 0 ∧
    noticeWaits.port.queue = ⟨.pole, 5, 1026, 300⟩ :: [] ∧ noticeWaits.port.byteIdx < 5 ∧
    ({ noticeWaits.port with byteIdx := 5, headLatched := true } : Port).byteIdx = 5 := by decide

/-- A queue of this many PEER notices behind a GRANT notice. -/
def queued (n : Nat) (latched : Bool) : Port :=
  { Port.reset with
    queue := ⟨.grant, 0, 9, 0⟩ :: List.replicate n ⟨.peer, 0, 0, 0⟩
    headLatched := latched }

theorem test_met_GeneratedNoticesCoalesceAppendOrAreLost :
    ((NoticeKind.grant = .grant ∨ NoticeKind.grant = .ceiling) ∧
      ∃ m ∈ (queued 3 false).queue, m.kind = .grant) ∧
    ¬(∃ m ∈ (queued 3 true).queue.drop 1, m.kind = .grant) ∧
    (queued 30 true).queue.length < 32 ∧ 32 ≤ (queued 31 true).queue.length := by decide

/-- The GRANT notice coalesces, is appended behind a latched one, and is lost when 32 wait. -/
theorem test_notice_coalesces :
    ((queued 1 false).enqueue ⟨.grant, 0, 8, 1⟩).queue = [⟨.grant, 0, 8, 1⟩, ⟨.peer, 0, 0, 0⟩] ∧
    ((queued 1 true).enqueue ⟨.grant, 0, 8, 1⟩).queue =
      [⟨.grant, 0, 9, 0⟩, ⟨.peer, 0, 0, 0⟩, ⟨.grant, 0, 8, 1⟩] ∧
    ((queued 31 true).enqueue ⟨.grant, 0, 8, 1⟩).lost = true := by decide

theorem test_met_IntakeCollectsParameters :
    (0x12 : Byte) ∉ ([0x10, 0x11, 0x20, 0x21, 0x22, 0x30, 0x31, 0x32, 0x40, 0x41] : List Byte) ∧
    (station 2).port.intake = none ∧
    (∀ c ∈ [ParamCommand.cfgWrite, .demand, .roleValue, .snapshot],
      ([] : List Byte).length + 1 < paramCount c) ∧ paramCount .cfgWrite = 3 ∧ paramCount .demand = 2 ∧
    paramCount .roleValue = 2 ∧ paramCount .feederMask = 1 ∧ paramCount .snapshot = 2 := by decide

theorem test_met_OutputsFollowTheState : (station 1).isPole = true ∧ (station 2).isDrive = true ∧
    (station 3).isAux = true ∧ (station 4).isStore = true ∧ (station 5).isCab = true ∧
    (station 6).roleAssigned = false ∧ (station 0).roleAssigned = false ∧ (station 7).roleAssigned = false := by
  decide

/-! ## The hypotheses of the statements are met: invariants -/

/-- A station that holds a window, ramping under its grant, in a round latched with INRUSH. -/
def rampingHeld : State :=
  { sampling .slots 0 with
    arb := ⟨0, some ⟨6, 3, none⟩, .self⟩
    ceil := ⟨50, .ramping, false, false, false⟩
    budget := { Budget.reset with
      kind := .view, grants := (Eight.all 0).set 2 100, avail := 100 }
    view := heardView
    line := { (sampling .slots 0).line with image := sentImage { Marks.empty with inrush := true } }
    pole := { PoleWatch.reset with
      pos := ⟨.dropped .timed, true, true, false, 0⟩, neg := ⟨.gap 1500 1, false, false, false, 0⟩
      arcCut := true }
    pending := [.statusRead] }

theorem test_met_invariants_of_blocks : queueOk rampingHeld.port ∧ slateOk rampingHeld.slate ∧
    settingsOk rampingHeld.port.settings ∧ grantsOk rampingHeld.budget ∧ settleOk rampingHeld := by
  unfold settleOk queueOk unlatchedCount slateOk settingsOk budgetSettingsOk poleSettingsOk otherSettingsOk grantsOk
  decide +kernel

theorem test_met_invariant_of_the_line : lineOk rampingHeld.line := by
  unfold lineOk countsOk frameOk drivePinsOk Driver.sampled; decide +kernel

theorem test_met_invariant_of_the_poles : polesOk rampingHeld.pole := by
  unfold polesOk poleRecOk; exact ⟨⟨trivial, by decide⟩, ⟨⟨by decide, by decide, by decide, by decide⟩,
    by decide⟩, by decide, by decide⟩

theorem test_met_invariant_of_the_draw : drawOk rampingHeld := by
  refine ⟨?_, ?_, fun i => ⟨?_, fun h => absurd h ?_⟩, ?_, ?_, ?_, ?_, ?_⟩
  · unfold joinOk; decide +kernel
  · unfold ceilOk; decide +kernel
  · revert i; decide +kernel
  · revert i; decide +kernel
  all_goals decide +kernel

theorem test_met_invariant_of_the_window : windowOk rampingHeld ∧ rampingHeld.arb.window ≠ none ∧
    rampingHeld.line.inRound := by
  refine ⟨fun _ => ⟨⟨Marks.empty, rfl, rfl⟩, fun _ => rfl⟩, by decide, Or.inl rfl⟩

/-- A WAITING ceiling at 0 whose window is taken at this completion rises from 0. -/
theorem test_met_CeilingLeavesZeroOnlyInAWindowOrLimp :
    let s := winning 2 (Eight.all ⟨false, .off, 0⟩) 0
    let u : State := { s with
      ceil := ⟨0, .waiting, false, false, false⟩, port := { s.port with demand := 100 } }
    u.ceil.ceiling = 0 ∧ after (.midSample idle) u (fun t => decide (0 < t.ceil.ceiling)) = true := by
  decide +kernel

/-- A step from each of these states answers a next state. -/
theorem test_met_step : (match step rampingHeld with
    | .next _ => true
    | _ => false) = true := by decide +kernel

end Sys2Proof.Tests
end

/-! # What stays of the notices of an event (R187)

A notice once queued is only replaced by a later GRANT or CEILING notice of its own kind (R113, R137), so the
notices of the other kinds stand until the end of the event. One lemma for each operation of a view update. -/

namespace Sys2Proof.Proofs

open Sys2Proof.Machine Sys2Proof.Laws

section Queue

theorem mem_replaceKind_self {m : Notice} {q : List Notice} (h : ∃ x ∈ q, x.kind = m.kind) :
    m ∈ replaceKind m q := by
  induction q with
  | nil => simp at h
  | cons y r ih =>
    by_cases hy : y.kind = m.kind
    · simp [replaceKind, hy]
    · have hr : ∃ x ∈ r, x.kind = m.kind := by simpa [hy] using h
      simp [replaceKind, hy, ih hr]

theorem mem_replaceKind_of_kind_ne {m x : Notice} {q : List Notice} (hx : x ∈ q) (hk : x.kind ≠ m.kind) :
    x ∈ replaceKind m q := by
  induction q with
  | nil => simp at hx
  | cons y r ih =>
    by_cases hy : y.kind = m.kind
    · have hr : x ∈ r := (List.mem_cons.1 hx).resolve_left (fun e => hk (e ▸ hy))
      simp [replaceKind, hy, hr]
    · rcases List.mem_cons.1 hx with rfl | hr
      · simp [replaceKind, hy]
      · simp [replaceKind, hy, ih hr]

/-- What one notice does to the port: it replaces one of its kind, is appended, or is lost (R187). -/
theorem enqueue_cases (p : Port) (m : Notice) :
    (m.kind.coalesces = true ∧ (∃ x ∈ p.unlatched, x.kind = m.kind) ∧
      p.enqueue m = { p with queue := p.latchedHead ++ replaceKind m p.unlatched }) ∨
    (p.queue.length < 32 ∧ p.enqueue m = { p with queue := p.queue ++ [m] }) ∨
    (32 ≤ p.queue.length ∧ p.enqueue m = { p with lost := true }) := by
  by_cases hc : (m.kind.coalesces && p.unlatched.any (fun x => x.kind == m.kind)) = true
  · obtain ⟨hk, hu⟩ := Bool.and_eq_true_iff.1 hc
    exact .inl ⟨hk, by simpa using hu, if_pos hc⟩
  · by_cases hl : p.queue.length < Config.queueDepth
    · exact .inr (.inl ⟨hl, (if_neg hc).trans (if_pos hl)⟩)
    · exact .inr (.inr ⟨not_lt.1 hl, (if_neg hc).trans (if_neg hl)⟩)

end Queue

section Notices

variable {s : State} {n : Notice}

/-- A notice stands in the queue after the event that generates it, or it is lost. -/
theorem noticed_notify_self (s : State) (k : NoticeKind) (a v st : Nat) :
    noticed (s.notify k a v st) ⟨k, a, v, st⟩ := by
  unfold noticed
  rcases enqueue_cases s.port ⟨k, a, v, st⟩ with ⟨-, hx, he⟩ | ⟨-, he⟩ | ⟨hl, he⟩ <;>
    simp only [State.notify, State.setPort_port, he]
  · exact .inl (List.mem_append_right _ (mem_replaceKind_self hx))
  · exact .inl (List.mem_append_right _ (List.mem_singleton_self _))
  · exact .inr ⟨hl, trivial⟩

/-- A notice of a kind that does not coalesce, or of another kind, leaves a notice where it is. -/
theorem noticed_notify {k : NoticeKind} {a v st : Nat} (hk : k.coalesces = false ∨ n.kind ≠ k)
    (h : noticed s n) : noticed (s.notify k a v st) n := by
  unfold noticed at h ⊢
  rcases enqueue_cases s.port ⟨k, a, v, st⟩ with ⟨hc, -, he⟩ | ⟨hl, he⟩ | ⟨hl, he⟩ <;>
    simp only [State.notify, State.setPort_port, he]
  · have hne : n.kind ≠ k := hk.resolve_left (by simpa using hc)
    have hsplit := latchedHead_append_unlatched s.port
    rcases h with h | ⟨hl, hlost⟩
    · rw [← hsplit] at h
      rcases List.mem_append.1 h with h | h
      · exact .inl (List.mem_append_left _ h)
      · exact .inl (List.mem_append_right _ (mem_replaceKind_of_kind_ne h hne))
    · refine .inr ⟨?_, hlost⟩
      rw [← hsplit] at hl
      simpa [replaceKind_length] using hl
  · rcases h with h | ⟨hfull, -⟩
    · exact .inl (List.mem_append_left _ h)
    · omega
  · exact h.imp_right (fun hf => ⟨hf.1, trivial⟩)

theorem noticed_notifyAll {k : NoticeKind} {st : Nat} {l : List (Nat × Nat)}
    (hk : k.coalesces = false ∨ n.kind ≠ k) (h : noticed s n) : noticed (s.notifyAll k st l) n := by
  induction l generalizing s with
  | nil => exact h
  | cons x r ih => exact ih (noticed_notify hk h)

/-- Each notice of a list of a kind that does not coalesce stands after the list. -/
theorem noticed_notifyAll_of_mem {k : NoticeKind} {st a v : Nat} {l : List (Nat × Nat)}
    (hk : k.coalesces = false) (hm : (a, v) ∈ l) : noticed (s.notifyAll k st l) ⟨k, a, v, st⟩ := by
  induction l generalizing s with
  | nil => simp at hm
  | cons x r ih =>
    rcases List.mem_cons.1 hm with rfl | hr
    · exact noticed_notifyAll (l := r) (.inl hk) (noticed_notify_self s k a v st)
    · exact ih hr

/-- The line engine holds no notice. -/
theorem noticed_setLine (s : State) (l : Line) (n : Notice) : noticed (s.setLine l) n ↔ noticed s n := Iff.rfl

/-- A notice stands after a choice of two continuations if it stands after each of them. -/
theorem noticed_ite {c : Prop} [Decidable c] {t u : State} (ht : noticed t n) (hu : noticed u n) :
    noticed (if c then t else u) n := by
  split
  · exact ht
  · exact hu

theorem noticed_grantNotice {b a st : Nat} (hn : n.kind ≠ .grant) (h : noticed s n) :
    noticed (s.grantNotice b a st) n := noticed_ite h (noticed_notify (.inr hn) h)

theorem noticed_budgetUpdate {r : RoundRecord} (hn : n.kind ≠ .grant) (h : noticed s n) :
    noticed (s.budgetUpdate r) n := noticed_ite (noticed_grantNotice hn h) h

theorem noticed_windowNotice {b : Holder} {x : Option (Nat × Nat)} {st : Nat} (h : noticed s n) :
    noticed (s.windowNotice b x st) n := by
  cases x with
  | some a => exact noticed_notify (.inl rfl) h
  | none => exact noticed_ite h (noticed_notify (.inl rfl) h)

theorem noticed_arbUpdate {r : RoundRecord} (h : noticed s n) : noticed (s.arbUpdate r) n :=
  noticed_windowNotice h

theorem noticed_assertArcCut {st : Nat} (h : noticed s n) : noticed (s.assertArcCut st) n :=
  noticed_ite h (noticed_notify (.inl rfl) h)

theorem noticed_movePole {w : PoleName} {x : PoleState} {st : Nat} (h : noticed s n) :
    noticed (s.movePole w x st) n := by
  unfold State.movePole
  split
  · exact noticed_assertArcCut (noticed_notify (.inl rfl) h)
  · exact noticed_notify (.inl rfl) h

theorem noticed_lowerGap {w : PoleName} {st : Nat} (h : noticed s n) : noticed (s.lowerGap w st) n :=
  noticed_ite (noticed_movePole h) h

theorem noticed_ackPole {w : PoleName} {st : Nat} (h : noticed s n) : noticed (s.ackPole w st) n :=
  noticed_ite (noticed_notify (.inl rfl) h) h

theorem noticed_poleUpdate {r : RoundRecord} (h : noticed s n) : noticed (s.poleUpdate r) n := by
  have lowered : ∀ {t : State} {c : Bool}, noticed t n →
      noticed (if c then (t.lowerGap .pos r.stamp).lowerGap .neg r.stamp else t) n :=
    fun ht => noticed_ite (noticed_lowerGap (noticed_lowerGap ht)) ht
  have acked : ∀ {t : State} {c : Bool}, noticed t n →
      noticed (if c then (t.ackPole .pos r.stamp).ackPole .neg r.stamp else t) n :=
    fun ht => noticed_ite (noticed_ackPole (noticed_ackPole ht)) ht
  exact noticed_ite (acked (lowered h)) h

theorem noticed_sounderOn {st : Nat} (h : noticed s n) : noticed (s.sounderOn st) n :=
  noticed_ite h (noticed_notify (.inl rfl) h)

theorem noticed_sounderOffCheck {st : Nat} (h : noticed s n) : noticed (s.sounderOffCheck st) n :=
  noticed_ite (noticed_notify (.inl rfl) h) h

theorem noticed_slateUpdate {r : RoundRecord} (h : noticed s n) : noticed (s.slateUpdate r) n := by
  have called : ∀ {t : State} {c : Bool}, noticed t n → noticed (if c then t.sounderOn r.stamp else t) n :=
    fun ht => noticed_ite (noticed_sounderOn ht) ht
  exact noticed_ite (noticed_sounderOffCheck (called (noticed_notifyAll (.inl rfl) h))) h

theorem noticed_putCeil {c : Ceil} {st : Nat} (hn : n.kind ≠ .ceiling) (h : noticed s n) :
    noticed (s.putCeil c st) n := noticed_ite h (noticed_notify (.inr hn) h)

theorem noticed_ceilingUpdate {r : RoundRecord} {e : WindowEvent} (hn : n.kind ≠ .ceiling) (h : noticed s n) :
    noticed (s.ceilingUpdate r e) n :=
  noticed_ite (noticed_ite (noticed_putCeil hn h) (noticed_putCeil hn h)) h

theorem noticed_moveFeeder {i : Fin 8} {d : FeederState} {c st : Nat} (h : noticed s n) :
    noticed (s.moveFeeder i d c st) n := noticed_notify (.inl rfl) h

theorem noticed_shedLoop {fuel g st : Nat} (h : noticed s n) : noticed (State.shedLoop fuel g st s) n := by
  induction fuel generalizing s with
  | zero => exact h
  | succ k ih =>
    unfold State.shedLoop
    split
    · split
      · exact ih (noticed_moveFeeder h)
      · exact h
    · exact h

theorem noticed_shedToGrant {st : Nat} (h : noticed s n) : noticed (s.shedToGrant st) n :=
  noticed_ite (noticed_shedLoop h) h

theorem noticed_deenergize {l : List (Fin 8)} {c st : Nat} (h : noticed s n) :
    noticed (State.deenergize l c st s) n := by
  induction l generalizing s with
  | nil => exact h
  | cons i r ih => exact ih (noticed_ite (noticed_moveFeeder h) h)

theorem noticed_comfortCut {st : Nat} (h : noticed s n) : noticed (s.comfortCut st) n :=
  noticed_ite (noticed_deenergize h) h

theorem noticed_feederBack {i : Option (Fin 8)} {st : Nat} (h : noticed s n) :
    noticed (s.feederBack i st) n := by
  cases i with
  | some k => exact noticed_ite (noticed_moveFeeder h) h
  | none => exact h

theorem noticed_feederWindow {e : WindowEvent} {st : Nat} (h : noticed s n) :
    noticed (s.feederWindow e st) n := by
  rcases e with _ | ⟨_ | k⟩ | _ | ⟨_ | k⟩ | k
  case taken.some | ended.some => exact noticed_ite (noticed_moveFeeder h) h
  case abandoned => exact noticed_feederBack h
  case none | taken.none | held | ended.none => exact h

theorem noticed_feederUpdate {r : RoundRecord} {e : WindowEvent} (h : noticed s n) :
    noticed (s.feederUpdate r e) n := by
  have cut : ∀ {t : State} {c : Bool}, noticed t n → noticed (if c then t.comfortCut r.stamp else t) n :=
    fun ht => noticed_ite (noticed_comfortCut ht) ht
  exact noticed_ite (noticed_shedToGrant (cut (noticed_feederWindow h))) h

theorem noticed_regenUpdate {r : RoundRecord} (h : noticed s n) : noticed (s.regenUpdate r) n :=
  noticed_ite h h

/-- The layover read flag and the budget unit leave every notice of the peer view but a GRANT notice. -/
theorem noticed_evalUpdate {r : RoundRecord} (hn : n.kind ≠ .grant) (h : noticed (s.absorb r) n) :
    noticed (s.evalUpdate r) n :=
  noticed_budgetUpdate (s := (s.absorb r).layoverFlag r) hn ((noticed_setLine (s.absorb r) _ n).2 h)

/-- The blocks that act on a view update leave every notice but a CEILING notice where it is. -/
theorem noticed_actUpdate {r : RoundRecord} (hn : n.kind ≠ .ceiling) (h : noticed s n) :
    noticed (s.actUpdate r) n :=
  noticed_regenUpdate (noticed_feederUpdate (noticed_ceilingUpdate hn
    (noticed_slateUpdate (noticed_poleUpdate (noticed_arbUpdate h)))))

end Notices

end Sys2Proof.Proofs

/-! # A completed round of a station that stays awake (R13, R41, R58, R178)

What each row that completes a round answers, and what its view update leaves of the state after the layover
step. -/

namespace Sys2Proof.Proofs

open Sys2Proof.Machine Sys2Proof.Laws

/-- The state that the completing mid sample with these levels leaves (R13). -/
def completed (p : Pins) (s : State) : State :=
  ((s.sense p).riseB).complete (modeOfRun s.line.lowRun)

/-- The round record that the completing mid sample hands to the view update (R40, R41). -/
def recordRead (s : State) : RoundRecord := s.line.record s.line.joinDone

theorem recordRead_marks (s : State) : (recordRead s).marks = rxMarks s.line.rx := rfl

theorem recordRead_stamp (s : State) : (recordRead s).stamp = (rxCount s.line.rx).toNat := rfl

theorem recordRead_band (s : State) (k : Fin 8) : (recordRead s).bands.get k = rxBand s.line.rx k :=
  get_ofFn _ k

/-- A mid sample that ends a good stop frame of no own drive completes the round (R13). -/
theorem midSample_completes {p : Pins} {s : State} (hp : p.pdHigh = true) (hph : s.line.phase = .stop)
    (hdl : s.line.driveLeft = 0) (hlr : 2 ≤ s.line.lowRun) : (s.sense p).midSample = completed p s := by
  have hhigh : (s.sense p).pins.pdHigh = true := hp
  have hstop : (s.sense p).riseB.line.phase = .stop := hph
  have hrun : (s.sense p).riseB.line.lowRun = s.line.lowRun := rfl
  have hdrive : (s.sense p).riseB.frameHigh = false := by
    simp [State.frameHigh, State.riseB, State.sense, hdl]
  simp [State.midSample, hdrive, State.samplePhase, hstop, hhigh, State.midStop, hrun, completed, not_lt.2 hlr]

/-- Both rows that complete a round answer the completed state (R13, log 1). -/
theorem exec_completionRow {i : Instr} {p : Pins} {s : State} (h : completionRow i p s) :
    exec i s = .next (completed p s) := by
  obtain ⟨⟨hi, hd⟩, hp, hph, hdl, hlr⟩ := h
  rw [← midSample_completes hp hph hdl hlr]
  rcases hi with rfl | rfl
  · simp [exec, execMidSample, State.onlyIf, Line.sampleDue, hd]
  · simp [exec, execRoundCompletion, State.onlyIf, Line.sampleDue, Line.stopRead, hd, hp, hph, hdl, hlr]

/-- A station that stays awake counts no second layover round (R178). -/
theorem layoverNext_ne_two {s : State} (h : staysAwake s) :
    layoverNext s.line.layoverCount (rxMarks s.line.rx) ≠ 2 := by
  rcases h with h | h
  · simp [layoverNext, h]
  · simp only [layoverNext, h]
    split <;> decide

/-- A view update after which the station is awake leaves what its blocks leave, but for the layover count. -/
theorem viewUpdate_awake {s : State} {r : RoundRecord} (h : layoverNext s.line.layoverCount r.marks ≠ 2) :
    ∃ l, s.viewUpdate r = ((s.evalUpdate r).actUpdate r).setLine l := by
  have hc : ((s.evalUpdate r).actUpdate r).line.layoverCount = s.line.layoverCount := by rw [actUpdate_line]
  exact ⟨_, layoverStep_awake _ r (by rwa [hc])⟩

/-- A station that stays awake keeps what the blocks of the view update leave, but for the line engine. -/
theorem completed_eq {s : State} (p : Pins) (h : staysAwake s) : ∃ l, completed p s =
    (((((s.sense p).riseB).lineComplete (modeOfRun s.line.lowRun)).evalUpdate (recordRead s)).actUpdate
      (recordRead s)).setLine l := by
  apply viewUpdate_awake
  rw [lineComplete_line]
  exact layoverNext_ne_two h

theorem evalUpdate_view (s : State) (r : RoundRecord) : (s.evalUpdate r).view = s.view.absorb r := by
  simp [State.evalUpdate, State.absorb]

/-- The peer view after a completed round is the view before it with the record taken in (R44, R58). -/
theorem completed_view {s : State} (p : Pins) (h : staysAwake s) :
    (completed p s).view = s.view.absorb (recordRead s) := by
  obtain ⟨l, he⟩ := completed_eq p h
  simp [he, evalUpdate_view]

/-- A notice of the record's taking in stands after the completed round, but for the kinds that coalesce: a later
block may replace it. -/
theorem noticed_completed {s : State} {n : Notice} (p : Pins) (h : staysAwake s) (hn : n.kind.coalesces = false)
    (hq : noticed ((((s.sense p).riseB).lineComplete (modeOfRun s.line.lowRun)).absorb (recordRead s)) n) :
    noticed (completed p s) n := by
  have hg : n.kind ≠ .grant := fun e => by simp [e, NoticeKind.coalesces] at hn
  have hc : n.kind ≠ .ceiling := fun e => by simp [e, NoticeKind.coalesces] at hn
  obtain ⟨l, he⟩ := completed_eq p h
  rw [he, noticed_setLine]
  exact noticed_actUpdate hc (noticed_evalUpdate hg hq)

/-- Every PEER notice of the record taken in stands after the completed round (R60). -/
theorem completed_noticed_peer {s : State} (p : Pins) (h : staysAwake s) {a v : Nat}
    (hm : (a, v) ∈ peerNotes s.view.entries (s.view.absorb (recordRead s)).entries) :
    noticed (completed p s) ⟨.peer, a, v, (recordRead s).stamp⟩ := by
  have hv : (((s.sense p).riseB).lineComplete (modeOfRun s.line.lowRun)).view = s.view := by simp
  rw [← hv] at hm
  exact noticed_completed p h rfl (noticed_notifyAll_of_mem rfl hm)

end Sys2Proof.Proofs

/-! # The peer view (R43 to R60)

The tables of hearing and adoption entry by entry, and the published conditions of eight entries. -/

namespace Sys2Proof.Proofs

open Sys2Proof.Machine Sys2Proof.Laws

section Entries

/-- R45. -/
theorem heard_iff (b : Band) : b.heard = true ↔ b.present = true ∧ 1 ≤ b.role.toNat ∧ b.role.toNat ≤ 5 := by
  simp [Band.heard, and_assoc]

/-- R47. -/
theorem absorb_of_not_heard {e : PeerEntry} {b : Band} (h : ¬b.heard = true) : e.absorb b = e.notHeard :=
  if_neg h

/-- R46: an entry heard before with the role it holds goes on. -/
theorem absorb_of_again {e : PeerEntry} {b : Band} (h : b.heard = true) (hs : e.st = .heardOnce ∨ e.st = .present)
    (hr : e.role = b.role.toNat) : e.absorb b = e.laterHearing b := by
  rcases hs with hs | hs <;> simp [PeerEntry.absorb, h, PeerEntry.hear, hs, hr]

/-- R46, R51: any other entry starts from a first hearing. -/
theorem absorb_of_anew {e : PeerEntry} {b : Band} (h : b.heard = true)
    (hn : ¬((e.st = .heardOnce ∨ e.st = .present) ∧ e.role = b.role.toNat)) : e.absorb b = firstHearing b := by
  cases hs : e.st with
  | absent | silent => simp [PeerEntry.absorb, h, PeerEntry.hear, hs]
  | heardOnce | present =>
    have hr : e.role ≠ b.role.toNat := fun hr => hn ⟨by simp [hs], hr⟩
    simp [PeerEntry.absorb, h, PeerEntry.hear, hs, hr]

theorem notHeard_of_absent {e : PeerEntry} (h : e.st = .absent) : e.notHeard = e := by
  simp [PeerEntry.notHeard, h]

theorem notHeard_of_heardOnce {e : PeerEntry} (h : e.st = .heardOnce) : e.notHeard = PeerEntry.cleared := by
  simp [PeerEntry.notHeard, h]

theorem notHeard_of_present {e : PeerEntry} (h : e.st = .present) (hm : e.miss < 2) :
    e.notHeard = { e with miss := e.miss + 1 } := by
  simp [PeerEntry.notHeard, h, hm]

theorem notHeard_of_third_miss {e : PeerEntry} (h : e.st = .present) (hm : 2 ≤ e.miss) :
    e.notHeard = { e with st := .silent, miss := 3 } := by
  simp [PeerEntry.notHeard, h, not_lt.2 hm]

theorem notHeard_of_silent {e : PeerEntry} (h : e.st = .silent) : e.notHeard = e := by
  simp [PeerEntry.notHeard, h]

theorem adoptsSmaller_iff (r : Nat) : adoptsSmaller r = true ↔ r = 1 ∨ r = 4 := by
  simp [adoptsSmaller]

/-- R50: nothing is adopted from the first hearing of a role value that is adopted downward. -/
theorem firstValue_eq (r v : Nat) : firstValue r v = if r = 1 ∨ r = 4 then 0 else v :=
  if_congr (adoptsSmaller_iff r) rfl rfl

/-- R50: the smaller of the last two role values of a POLE or STORE, the greater of any other. -/
theorem laterValue_eq (r prev v : Nat) :
    laterValue r prev v = if r = 1 ∨ r = 4 then min v prev else max v prev :=
  if_congr (adoptsSmaller_iff r) (min_comm _ _) (max_comm _ _)

theorem view_absorb_entries (v : View) (r : RoundRecord) (k : Fin 8) :
    (v.absorb r).entries.get k = (v.entries.get k).absorb (r.bands.get k) := get_ofFn _ k

/-- R60. -/
theorem mem_peerNotes {old new : Eight PeerEntry} {k : Fin 8}
    (h : (new.get k).st ≠ (old.get k).st ∨
      ((old.get k).st ≠ .absent ∧ (new.get k).role ≠ (old.get k).role)) :
    (k.val, 256 * (new.get k).role + (new.get k).st.code) ∈ peerNotes old new :=
  List.mem_flatMap.2 ⟨k, mem_allEight k, by rw [peerNote, if_pos h]; exact List.mem_singleton_self _⟩

end Entries

section Published

/-- The search of the eight indices finds the lowest that meets the test. -/
theorem find_allEight_eq_some_iff (q : Fin 8 → Bool) (k : Fin 8) :
    allEight.find? q = some k ↔ q k = true ∧ ∀ l, l < k → q l = false := by
  constructor
  · exact fun h => ⟨List.find?_some h, fun l hl => find_allEight_first q k h l hl⟩
  · rintro ⟨hk, hlow⟩
    obtain ⟨j, hj⟩ := Option.isSome_iff_exists.1 (List.find?_isSome.2 ⟨k, mem_allEight k, hk⟩)
    have hqj : q j = true := List.find?_some hj
    rcases lt_trichotomy j k with hlt | rfl | hgt
    · simp [hlow j hlt] at hqj
    · exact hj
    · simp [find_allEight_first q j hj k hgt] at hk

/-- R54. -/
theorem designatedPole_eq_some_iff (es : Eight PeerEntry) (k : Fin 8) :
    designatedPole es = some k ↔ ((es.get k).st = .present ∧ (es.get k).role = 1) ∧
      ∀ l, l < k → ¬((es.get l).st = .present ∧ (es.get l).role = 1) := by
  simp only [designatedPole, find_allEight_eq_some_iff, Bool.and_eq_true, beq_iff_eq, ← Bool.not_eq_true]

/-- R54: no entry PRESENT with role POLE. -/
theorem designatedPole_eq_none_iff (es : Eight PeerEntry) :
    designatedPole es = none ↔ ∀ k, ¬((es.get k).st = .present ∧ (es.get k).role = 1) := by
  simp only [designatedPole, List.find?_eq_none, mem_allEight, true_imp_iff, Bool.and_eq_true, beq_iff_eq]

/-- R55. -/
theorem lineOffOf_iff (m : Marks) (es : Eight PeerEntry) (pole : Option (Fin 8)) :
    lineOffOf m es pole = true ↔ m.offWire = true ∨ m.gap = true ∨ pole = none ∨
      ∃ k, pole = some k ∧ (es.get k).unsettled = true := by
  cases pole with
  | none => simp [lineOffOf]
  | some k => simp [lineOffOf, or_assoc]

/-- The greatest of eight quantities is at least each of them. -/
theorem get_le_eightMax (v : Eight Nat) (k : Fin 8) : v.get k ≤ eightMax v := by
  unfold eightMax
  fin_cases k <;> simp only [Eight.get, le_max_iff, le_refl, true_or, or_true]

/-- The greatest of eight quantities is one of them. -/
theorem exists_get_eq_eightMax (v : Eight Nat) : ∃ k, v.get k = eightMax v := by
  have step : ∀ {a b : Nat} (k : Fin 8), v.get k = a → (∃ j, v.get j = b) → ∃ j, v.get j = max a b := by
    intro a b k hk hb
    rcases max_choice a b with h | h
    · exact ⟨k, hk.trans h.symm⟩
    · rwa [h]
  exact step 0 rfl (step 1 rfl (step 2 rfl (step 3 rfl (step 4 rfl (step 5 rfl (step 6 rfl ⟨7, rfl⟩))))))

/-- An entry that counts for the maximum speed counts with its adopted value (R57). -/
theorem speedOf_counting {e : PeerEntry} (hr : e.role = 2) (hs : e.st = .present ∨ e.st = .heardOnce) :
    speedOf e = e.value := if_pos ⟨hr, hs⟩

/-- R57: no entry that counts is above the maximum speed. -/
theorem value_le_maxSpeed {es : Eight PeerEntry} {k : Fin 8} (hr : (es.get k).role = 2)
    (hs : (es.get k).st = .present ∨ (es.get k).st = .heardOnce) :
    (es.get k).value ≤ eightMax (es.map speedOf) := by
  have h := get_le_eightMax (es.map speedOf) k
  rwa [get_map, speedOf_counting hr hs] at h

/-- R57: the maximum speed is 0 or the value of an entry that counts. -/
theorem maxSpeed_attained (es : Eight PeerEntry) : eightMax (es.map speedOf) = 0 ∨
    ∃ k, (es.get k).role = 2 ∧ ((es.get k).st = .present ∨ (es.get k).st = .heardOnce) ∧
      (es.get k).value = eightMax (es.map speedOf) := by
  obtain ⟨k, hk⟩ := exists_get_eq_eightMax (es.map speedOf)
  rw [get_map] at hk
  by_cases hc : (es.get k).role = 2 ∧ ((es.get k).st = .present ∨ (es.get k).st = .heardOnce)
  · exact .inr ⟨k, hc.1, hc.2, (speedOf_counting hc.1 hc.2).symm.trans hk⟩
  · exact .inl (hk.symm.trans (if_neg hc))

end Published

/-! ## The statements of the peer view -/

/-- Settles O20: the entry of each position takes in its band, and every PEER notice of it outlasts the notices
that the other blocks generate at the same completion. -/
theorem eachEntryMovesByItsHearing : Obligations.EachEntryMovesByItsHearing := by
  intro i p s hrow hawake
  refine ⟨completed p s, exec_completionRow hrow, fun k => ?_⟩
  have hentry : (completed p s).view.entries.get k = (s.view.entries.get k).absorb (rxBand s.line.rx k) := by
    rw [completed_view p hawake, view_absorb_entries, recordRead_band]
  have hnotice := fun h => completed_noticed_peer p hawake
    (mem_peerNotes (old := s.view.entries) (new := (s.view.absorb (recordRead s)).entries) (k := k) h)
  rw [← completed_view p hawake, recordRead_stamp] at hnotice
  dsimp only
  rw [← heard_iff]
  refine ⟨fun hn hs => ?_, fun hn hs => ?_, fun hn hs hm => ?_, fun hn hs hm => ?_, fun hn hs => ?_,
    fun hh ha => ?_, fun hh ha => ?_, hnotice⟩
  · rw [hentry, absorb_of_not_heard hn, notHeard_of_absent hs]
  · rw [hentry, absorb_of_not_heard hn, notHeard_of_heardOnce hs]
  · rw [hentry, absorb_of_not_heard hn, notHeard_of_present hs hm]
  · rw [hentry, absorb_of_not_heard hn, notHeard_of_third_miss hs hm]
  · rw [hentry, absorb_of_not_heard hn, notHeard_of_silent hs]
  · rw [hentry, absorb_of_anew hh ha, firstHearing, firstValue_eq]
  · obtain ⟨hs, hr⟩ := ha
    rw [hentry, absorb_of_again hh hs hr, PeerEntry.laterHearing, laterValue_eq, max_comm]

/-- Settles O21: the published conditions are computed from the marks read and the entries that the update leaves. -/
theorem publishedConditionsFollowTheEntries : Obligations.PublishedConditionsFollowTheEntries := by
  intro i p s hrow hawake
  refine ⟨completed p s, exec_completionRow hrow, ?_⟩
  rw [completed_view p hawake]
  refine ⟨designatedPole_eq_some_iff _, designatedPole_eq_none_iff _, lineOffOf_iff _ _ _, fun k hk => ?_,
    fun hn => ?_, fun k hr hs => value_le_maxSpeed hr hs, maxSpeed_attained _, rfl, rfl⟩
  · exact congrArg (publishedU _) hk
  · exact congrArg (publishedU _) hn

end Sys2Proof.Proofs

/-! # The measurement scanner (R63 to R77)

The decisions of a pass end, the converter's next conversion, and what of it reaches pole watch. -/

namespace Sys2Proof.Proofs

open Sys2Proof.Machine Sys2Proof.Laws

section Decisions

/-- The at limit field as a condition on the raw result (R68, R70). -/
theorem rawAtEnd_eq_decide (r : Raw) : rawAtEnd r = decide (r.toNat = 0 ∨ r.toNat = 1023) :=
  Bool.eq_iff_iff.2 (by simp [rawAtEnd])

/-- R71 in one form for both states: three passes in a row against the shoe's state change it. -/
theorem shoeNext_eq (h : Shoe) (dead live mag : Nat) : shoeNext h dead live mag =
    if (if h.live then mag < dead else live ≤ mag) then
      if h.run = 2 then ⟨!h.live, 0⟩ else ⟨h.live, h.run + 1⟩
    else ⟨h.live, 0⟩ := by
  obtain ⟨l, n⟩ := h
  cases l
  case false => simp [shoeNext]
  case true => simp [shoeNext]

/-- R73. -/
theorem passU_eq (pos neg : Shoe) (vpos vneg : Int) : passU pos neg vpos vneg =
    if pos.live ∧ neg.live then min 1023 (vpos - vneg).toNat else 0 := by
  simp [passU]

end Decisions

section Converter

variable {x : Scan} {p : Pins}

/-- R64: a captured group-B value goes before the group-A channel due. -/
theorem choose_held {v : Raw} (hc : x.conv = none) (hb : x.bHeld = some v) :
    x.choose p = { x with conv := some ⟨.an4, v⟩, bHeld := none } := by
  simp [Scan.choose, hc, hb]

/-- R64: without a captured group-B value the group-A channel due is sampled. -/
theorem choose_due {c : Channel} (hc : x.conv = none) (hb : x.bHeld = none) (ha : x.aNext = some c) :
    x.choose p = { x with conv := some ⟨c, pinRaw p c⟩, aNext := nextChannel c } := by
  simp [Scan.choose, hc, hb, ha]

/-- The converter's choice touches the conversion, the captured value and the channel due only. -/
theorem choose_eq (x : Scan) (p : Pins) : x.choose p =
    { x with conv := (x.choose p).conv, bHeld := (x.choose p).bHeld, aNext := (x.choose p).aNext } := by
  unfold Scan.choose
  split
  · rfl
  · split
    · rfl
    · split <;> rfl

end Converter

section PassEnd

/-- The scanner of an awake station with the results of a pass written and the next pass due, before the converter
chooses: the working store holds this raw of AN3 (R65, R67). -/
def passWritten (x : Scan) (t : Settings) (r : Raw) : Scan :=
  { ((x.store ⟨.an3, r⟩).anglePass t).shoePass t with aNext := some .an0 }

theorem passWritten_shoePos (x : Scan) (t : Settings) (r : Raw) : (passWritten x t r).shoePos =
    shoeNext x.shoePos t.shoeDead t.shoeLive (scaleShoe t.potSpan x.work.w0).natAbs := rfl

theorem passWritten_shoeNeg (x : Scan) (t : Settings) (r : Raw) : (passWritten x t r).shoeNeg =
    shoeNext x.shoeNeg t.shoeDead t.shoeLive (scaleShoe t.potSpan x.work.w1).natAbs := rfl

/-- The line voltage follows the shoes of the same pass (R73). -/
theorem passWritten_u (x : Scan) (t : Settings) (r : Raw) : (passWritten x t r).u =
    passU (passWritten x t r).shoePos (passWritten x t r).shoeNeg (scaleShoe t.potSpan x.work.w0)
      (scaleShoe t.potSpan x.work.w1) := rfl

/-- The four results of a pass carry its number and the decisions made with them (R67). -/
theorem passWritten_results (x : Scan) (t : Settings) (r : Raw) : (passWritten x t r).results =
    { x.results with
      e0 := shoeResult t.potSpan x.work.w0 (!x.settled) (x.aCount + 1) (passWritten x t r).shoePos.live
        (passWritten x t r).u
      e1 := shoeResult t.potSpan x.work.w1 (!x.settled) (x.aCount + 1) (passWritten x t r).shoeNeg.live
        (passWritten x t r).u
      e2 := angleResult x.work.w2 (!x.settled) (x.aCount + 1) (passWritten x t r).angPos.zone
      e3 := angleResult r (!x.settled) (x.aCount + 1) (passWritten x t r).angNeg.zone } := rfl

theorem passEnd_store (x : Scan) (t : Settings) (r : Raw) (p : Pins) :
    (x.store ⟨.an3, r⟩).passEnd t p = (passWritten x t r).choose p := rfl

/-- The state that the pass end with these levels leaves when AN3 read this raw (R65, R79). -/
def passEnded (p : Pins) (r : Raw) (s : State) : State :=
  ((s.sense p).setScan ((passWritten s.scan s.port.settings r).choose p)).polePass

theorem exec_groupAPassEnd {p : Pins} {s : State} {r : Raw} (hc : s.scan.conv = some ⟨.an3, r⟩)
    (hj : s.line.join ≠ .asleep) : exec (.groupAPassEnd p) s = .next (passEnded p r s) := by
  simp [exec, execGroupAPassEnd, hc, State.onlyIf, Conv.endsA, hj, passEnd_store, passEnded]

/-- R79: pole watch touches its own block and the local port only. -/
theorem polePass_eq (s : State) :
    s.polePass = { s with pole := s.polePass.pole, port := s.polePass.port } := by
  have h := polePass_frame s
  generalize s.polePass = t at h ⊢
  cases t
  simp_all

/-- R79: pole watch takes no pass end at another role or while unsettled. -/
theorem polePass_undelivered {s : State} (h : s.isPole = false ∨ s.scan.settled = false) : s.polePass = s :=
  if_neg (by rcases h with h | h <;> simp [h])

theorem passEnded_scan (p : Pins) (r : Raw) (s : State) :
    (passEnded p r s).scan = (passWritten s.scan s.port.settings r).choose p := by
  simp [passEnded]

theorem passEnded_frame (p : Pins) (r : Raw) (s : State) : passEnded p r s =
    { s with
      pins := p
      scan := (passEnded p r s).scan
      pole := (passEnded p r s).pole
      port := (passEnded p r s).port } := by
  rw [passEnded_scan]
  exact polePass_eq _

/-- A pass end that is not delivered to pole watch leaves the pole records and the port (R79). -/
theorem passEnded_undelivered (p : Pins) (r : Raw) {s : State} (h : s.isPole = false ∨ s.scan.settled = false) :
    (passEnded p r s).pole = s.pole ∧ (passEnded p r s).port = s.port := by
  have hset : ((passWritten s.scan s.port.settings r).choose p).settled = s.scan.settled := by
    rw [choose_eq]; rfl
  have hkeep : passEnded p r s =
      (s.sense p).setScan ((passWritten s.scan s.port.settings r).choose p) :=
    polePass_undelivered (h.imp id hset.trans)
  rw [hkeep]
  exact ⟨rfl, rfl⟩

/-- The scanner after the pass end is what the results leave but for the converter's next choice. -/
theorem passEnded_written (p : Pins) (r : Raw) (s : State) : ∃ c b a,
    (passEnded p r s).scan =
      { passWritten s.scan s.port.settings r with conv := c, bHeld := b, aNext := a } :=
  ⟨_, _, _, (passEnded_scan p r s).trans (choose_eq _ p)⟩

/-- A captured group-B value is converted before the next pass begins (R64). -/
theorem passEnded_held (p : Pins) (r : Raw) {s : State} {v : Raw} (h : s.scan.bHeld = some v) :
    (passEnded p r s).scan.conv = some ⟨.an4, v⟩ ∧ (passEnded p r s).scan.bHeld = none ∧
      (passEnded p r s).scan.aNext = some .an0 := by
  rw [passEnded_scan, choose_held (x := passWritten s.scan s.port.settings r) rfl h]
  exact ⟨rfl, rfl, rfl⟩

/-- Without a captured group-B value the next pass begins at once with AN0 (R65). -/
theorem passEnded_due (p : Pins) (r : Raw) {s : State} (h : s.scan.bHeld = none) :
    (passEnded p r s).scan.conv = some ⟨.an0, p.an0⟩ ∧ (passEnded p r s).scan.bHeld = none ∧
      (passEnded p r s).scan.aNext = some .an1 := by
  rw [passEnded_scan, choose_due (x := passWritten s.scan s.port.settings r) rfl h rfl]
  exact ⟨rfl, h, rfl⟩

end PassEnd

/-! ## The statement of the pass end -/

/-- Settles O35: what the pass decides and writes is `passWritten`, and the converter's choice after it touches
none of that. -/
theorem passEndDecidesAndWrites : Obligations.PassEndDecidesAndWrites := by
  intro p s r hconv hawake
  obtain ⟨c, b, a, hscan⟩ := passEnded_written p r s
  refine ⟨passEnded p r s, exec_groupAPassEnd hconv hawake, ?count, ?shoePos, ?shoeNeg, ?voltage, ?angPos, ?angNeg,
    ?results, fun _ => passEnded_held p r, passEnded_due p r, ?settled, ?settleMs, ?bCount, ?bRunning, ?bWaiting,
    passEnded_undelivered p r, passEnded_frame p r s⟩
  all_goals rw [hscan]
  case shoePos => exact shoeNext_eq _ _ _ _
  case shoeNeg => exact shoeNext_eq _ _ _ _
  case voltage =>
    simp only [passWritten_u, passU_eq, passWritten_shoePos, passWritten_shoeNeg, shoeNext_eq]
    rfl
  case results =>
    simp only [passWritten_results, shoeResult, angleResult, rawAtEnd_eq_decide, passWritten_u, passU_eq,
      passWritten_shoePos, passWritten_shoeNeg, shoeNext_eq]
    rfl
  all_goals rfl

end Sys2Proof.Proofs

/-! # Pole watch: records, moves and ARC_CUT (R78, R91, R101 to R103)

What a write of one record leaves of the other, and what each operation on the records leaves of pole watch as one
equation. -/

namespace Sys2Proof.Proofs

open Sys2Proof.Machine Sys2Proof.Laws

section Records

variable (p : PoleWatch) (w : PoleName) (x y : PoleRec)

@[simp] theorem record_setRec_self : (p.setRec w x).record w = x := by cases w <;> rfl

theorem record_setRec_of_ne {v w : PoleName} (h : v ≠ w) : (p.setRec w x).record v = p.record v := by
  cases v <;> cases w
  case pos.pos | neg.neg => exact absurd rfl h
  case pos.neg | neg.pos => rfl

@[simp] theorem setRec_record_self : p.setRec w (p.record w) = p := by cases w <;> rfl

@[simp] theorem setRec_setRec : (p.setRec w x).setRec w y = p.setRec w y := by cases w <;> rfl

@[simp] theorem setRec_arcCut : (p.setRec w x).arcCut = p.arcCut := by cases w <;> rfl

@[simp] theorem setRec_arcMin : (p.setRec w x).arcMin = p.arcMin := by cases w <;> rfl

@[simp] theorem setRec_arcMs : (p.setRec w x).arcMs = p.arcMs := by cases w <;> rfl

@[simp] theorem setRec_lowerHeard : (p.setRec w x).lowerHeard = p.lowerHeard := by cases w <;> rfl

@[simp] theorem setRec_heldSpeed : (p.setRec w x).heldSpeed = p.heldSpeed := by cases w <;> rfl

@[simp] theorem setRec_paused : (p.setRec w x).paused = p.paused := by cases w <;> rfl

end Records

section Drops

theorem code_eq_five_iff (a : PoleState) : a.code = 5 ↔ ∃ c, a = .dropped c := by
  cases a <;> simp [PoleState.code]

/-- R91: a record that enters a state other than DROPPED keeps its flags. -/
theorem enter_of_not_dropped (x : PoleRec) {a : PoleState} (n : Nat) (h : a.code ≠ 5) :
    x.enter a n = { x with st := a, stamp := n } := by
  cases a with
  | dropped c => exact absurd rfl h
  | _ => rfl

/-- ARC_CUT asserted, its minimum timer started at this time and the time since the assertion from 0 (R101, R103). -/
def arcAsserted (p : PoleWatch) (cut : Nat) : PoleWatch :=
  { p with arcCut := true, arcMin := some cut, arcMs := if p.arcCut then p.arcMs else 0 }

@[simp] theorem arcAsserted_record (p : PoleWatch) (cut : Nat) (w : PoleName) :
    (arcAsserted p cut).record w = p.record w := by cases w <;> rfl

theorem assertArcCut_pole (s : State) (n : Nat) :
    (s.assertArcCut n).pole = arcAsserted s.pole s.port.settings.arcCutMin := by
  unfold State.assertArcCut arcAsserted
  by_cases h : s.pole.arcCut = true <;> simp [h]

theorem noticed_assertArcCut_self {s : State} (h : s.pole.arcCut = false) (n : Nat) :
    noticed (s.assertArcCut n) ⟨.pole, 32, 0, n⟩ := by
  unfold State.assertArcCut
  rw [if_neg (by simp [h])]
  exact noticed_notify_self _ _ _ _ _

theorem movePole_of_not_dropped (s : State) (w : PoleName) {a : PoleState} (n : Nat) (h : a.code ≠ 5) :
    (s.movePole w a n).pole = s.pole.setRec w { s.pole.record w with st := a, stamp := n } := by
  rw [← enter_of_not_dropped _ n h]
  cases a with
  | dropped c => exact absurd rfl h
  | _ => simp [State.movePole]

theorem movePole_of_dropped (s : State) (w : PoleName) {a : PoleState} (n : Nat) (h : a.code = 5) :
    (s.movePole w a n).pole =
      arcAsserted (s.pole.setRec w ((s.pole.record w).enter a n)) s.port.settings.arcCutMin := by
  obtain ⟨c, rfl⟩ := (code_eq_five_iff a).1 h
  simp [State.movePole, assertArcCut_pole]

/-- R103: each change of state has its notice. -/
theorem noticed_movePole_self (s : State) (w : PoleName) (a : PoleState) (n : Nat) :
    noticed (s.movePole w a n)
      ⟨.pole, poleBase w + a.code, poleNoticeValue (s.pole.record w).st a, n⟩ := by
  have h := noticed_notify_self (s.setPole (s.pole.setRec w ((s.pole.record w).enter a n))) .pole
    (poleBase w + a.code) (poleNoticeValue (s.pole.record w).st a) n
  cases a with
  | dropped c => exact noticed_assertArcCut h
  | _ => exact h

/-- R103: a drop that finds ARC_CUT released has the notice of its assertion. -/
theorem noticed_movePole_asserts {s : State} (w : PoleName) {a : PoleState} (n : Nat) (h : a.code = 5)
    (hc : s.pole.arcCut = false) : noticed (s.movePole w a n) ⟨.pole, 32, 0, n⟩ := by
  obtain ⟨c, rfl⟩ := (code_eq_five_iff a).1 h
  exact noticed_assertArcCut_self (by simpa using hc) n

end Drops

section Release

/-- R102: a release changes ARC_CUT only, and only with both flags clear and the minimum timer expired. -/
theorem releaseArcCut_pole (s : State) (n : Nat) : (s.releaseArcCut n).pole =
    { s.pole with
      arcCut := s.pole.arcCut &&
        (s.pole.pos.droppedOpen || s.pole.neg.droppedOpen || s.pole.arcMin.isSome) } := by
  unfold State.releaseArcCut
  split
  case isTrue h =>
    simp only [Bool.and_eq_true, Bool.not_eq_true', beq_iff_eq] at h
    obtain ⟨⟨⟨-, hpos⟩, hneg⟩, hmin⟩ := h
    simp [hpos, hneg, hmin]
  case isFalse h =>
    have hkeep : (s.pole.arcCut && (s.pole.pos.droppedOpen || s.pole.neg.droppedOpen || s.pole.arcMin.isSome)) =
        s.pole.arcCut := by
      refine Bool.and_eq_left_iff_imp.2 fun hc => ?_
      by_contra hn
      simp_all
    rw [hkeep]

/-- R103: a release has its notice, with the time since the assertion. -/
theorem noticed_releaseArcCut_self {s : State} (n : Nat) (hc : s.pole.arcCut = true)
    (hr : (s.releaseArcCut n).pole.arcCut = false) :
    noticed (s.releaseArcCut n) ⟨.pole, 33, s.pole.arcMs, n⟩ := by
  unfold State.releaseArcCut at hr ⊢
  split at hr
  case isTrue h =>
    rw [if_pos h]
    exact noticed_notify_self _ _ _ _ _
  case isFalse => exact absurd (hc.symm.trans hr) (by decide)

theorem noticed_releaseArcCut {s : State} {m : Notice} {n : Nat} (h : noticed s m) :
    noticed (s.releaseArcCut n) m := noticed_ite (noticed_notify (.inl rfl) h) h

end Release

end Sys2Proof.Proofs

/-! # Pole watch at a settled pass end (R79 to R92, R101 to R103) -/

namespace Sys2Proof.Proofs

open Sys2Proof.Machine Sys2Proof.Laws

section RecordAtAPass

/-- A record taken into the state that the tables give, with what LOWER heard clears in a lowered one (R91, R92). -/
def recPassed (x : PoleRec) (a : PoleState) (lower : Bool) (n : Nat) : PoleRec :=
  let y := if a = x.st then x else x.enter a n
  if a = .lowered ∧ lower = true then { y with droppedOpen := false } else y

variable {x : PoleRec} {a : PoleState} {lower : Bool} {n : Nat}

theorem recPassed_of_dropped (h : a.code = 5) (hne : a ≠ x.st) : recPassed x a lower n =
    { st := a, droppedOpen := true, unacked := true, ackable := false, stamp := n } := by
  obtain ⟨c, rfl⟩ := (code_eq_five_iff a).1 h
  simp [recPassed, hne, PoleRec.enter]

theorem recPassed_of_not_dropped (h : ¬(a.code = 5 ∧ a ≠ x.st)) : recPassed x a lower n =
    { x with
      st := a
      droppedOpen := x.droppedOpen && !(a.code == 0 && lower)
      stamp := if a = x.st then x.stamp else n } := by
  have hstep : (if a = x.st then x else x.enter a n) =
      { x with st := a, stamp := if a = x.st then x.stamp else n } := by
    by_cases he : a = x.st
    · rw [if_pos he, if_pos he, he]
    · rw [if_neg he, if_neg he, enter_of_not_dropped x n fun hc => h ⟨hc, he⟩]
  have hcode : (a.code == 0) = decide (a = .lowered) := by cases a <;> rfl
  unfold recPassed
  rw [hstep, hcode]
  by_cases hl : a = .lowered ∧ lower = true
  · simp [hl]
  · have hkeep : (decide (a = .lowered) && lower) = false := by simpa using hl
    simp [hl, hkeep]

theorem recPassed_st : (recPassed x a lower n).st = a := by
  by_cases h : a.code = 5 ∧ a ≠ x.st
  · rw [recPassed_of_dropped h.1 h.2]
  · rw [recPassed_of_not_dropped h]

theorem recPassed_stamp : (recPassed x a lower n).stamp = if a = x.st then x.stamp else n := by
  by_cases h : a.code = 5 ∧ a ≠ x.st
  · rw [recPassed_of_dropped h.1 h.2, if_neg h.2]
  · rw [recPassed_of_not_dropped h]

end RecordAtAPass

section WatchAtAPass

/-- The zone that the scanner gives a pole (R72). -/
def zoneOf (x : Scan) (w : PoleName) : Zone :=
  match w with
  | .pos => x.angPos.zone
  | .neg => x.angNeg.zone

/-- The decision that the scanner gives a shoe (R71). -/
def liveOf (x : Scan) (w : PoleName) : Bool :=
  match w with
  | .pos => x.shoePos.live
  | .neg => x.shoeNeg.live

/-- The state that the tables give a pole with these results of the scanner and these settings. -/
def passNext (x : Scan) (e : Settings) (p : PoleWatch) (w : PoleName) : PoleState :=
  poleNext (p.record w).st (zoneOf x w) (liveOf x w) p.lowerHeard e.rewireMs
    (gapAllowance e.sectionDm e.gapGuard p.heldSpeed)

/-- The pass end drops the pole. -/
abbrev passDrops (x : Scan) (e : Settings) (p : PoleWatch) (w : PoleName) : Prop :=
  (passNext x e p w).code = 5 ∧ passNext x e p w ≠ (p.record w).st

/-- Pole watch after one pole's evaluation, ARC_CUT asserted by a drop (R79 to R92, R101). -/
def watchPassed (x : Scan) (e : Settings) (n : Nat) (w : PoleName) (p : PoleWatch) : PoleWatch :=
  let q := p.setRec w (recPassed (p.record w) (passNext x e p w) p.lowerHeard n)
  if passDrops x e p w then arcAsserted q e.arcCutMin else q

variable (x : Scan) (e : Settings) (n : Nat) (w : PoleName) (p : PoleWatch)

@[simp] theorem watchPassed_record_self : (watchPassed x e n w p).record w =
    recPassed (p.record w) (passNext x e p w) p.lowerHeard n := by
  unfold watchPassed
  split <;> simp

theorem watchPassed_record_of_ne {v w : PoleName} (h : v ≠ w) :
    (watchPassed x e n w p).record v = p.record v := by
  unfold watchPassed
  split <;> simp [record_setRec_of_ne p _ h]

@[simp] theorem watchPassed_frame :
    (watchPassed x e n w p).lowerHeard = p.lowerHeard ∧ (watchPassed x e n w p).heldSpeed = p.heldSpeed ∧
      (watchPassed x e n w p).paused = p.paused := by
  unfold watchPassed
  split <;> simp [arcAsserted]

theorem watchPassed_of_drop {x : Scan} {e : Settings} {p : PoleWatch} {w : PoleName} (h : passDrops x e p w) :
    (watchPassed x e n w p).arcCut = true ∧ (watchPassed x e n w p).arcMin = some e.arcCutMin := by
  rw [watchPassed, if_pos h]
  exact ⟨rfl, rfl⟩

theorem watchPassed_of_not_drop {x : Scan} {e : Settings} {p : PoleWatch} {w : PoleName} (h : ¬passDrops x e p w) :
    (watchPassed x e n w p).arcCut = p.arcCut ∧ (watchPassed x e n w p).arcMin = p.arcMin := by
  rw [watchPassed, if_neg h]
  exact ⟨setRec_arcCut _ _ _, setRec_arcMin _ _ _⟩

/-- An asserted ARC_CUT stays asserted through an evaluation, its time running on (R101, R103). -/
theorem watchPassed_of_arcCut {p : PoleWatch} (h : p.arcCut = true) :
    (watchPassed x e n w p).arcCut = true ∧ (watchPassed x e n w p).arcMs = p.arcMs := by
  unfold watchPassed
  split <;> simp [arcAsserted, h]

/-- The evaluation of one pole leaves the other's outcome. -/
theorem passNext_watchPassed {v w : PoleName} (h : v ≠ w) :
    passNext x e (watchPassed x e n w p) v = passNext x e p v := by
  simp [passNext, watchPassed_record_of_ne x e n p h]

end WatchAtAPass

section Evaluation

variable (s : State) (w : PoleName)

/-- The move that the tables give one pole on the scanner's results. -/
def passMove : State :=
  if passNext s.scan s.port.settings s.pole w = (s.pole.record w).st then s
  else s.movePole w (passNext s.scan s.port.settings s.pole w) s.countStamp

/-- The evaluation of one pole is its move and, in LOWERED under LOWER, the clearing of its flag (R92). -/
theorem evalPole_eq : s.evalPole w (zoneOf s.scan w) (liveOf s.scan w) =
    if passNext s.scan s.port.settings s.pole w = .lowered ∧ s.pole.lowerHeard = true then
      (passMove s w).clearDroppedOpen w
    else passMove s w := rfl

theorem passMove_pole_of_drop {s : State} {w : PoleName} (h : passDrops s.scan s.port.settings s.pole w) :
    (passMove s w).pole = arcAsserted (s.pole.setRec w ((s.pole.record w).enter
      (passNext s.scan s.port.settings s.pole w) s.countStamp)) s.port.settings.arcCutMin := by
  rw [passMove, if_neg h.2, movePole_of_dropped s w _ h.1]

theorem passMove_pole_of_not_drop {s : State} {w : PoleName}
    (h : ¬passDrops s.scan s.port.settings s.pole w) :
    (passMove s w).pole = s.pole.setRec w
      (if passNext s.scan s.port.settings s.pole w = (s.pole.record w).st then s.pole.record w
      else (s.pole.record w).enter (passNext s.scan s.port.settings s.pole w) s.countStamp) := by
  unfold passMove
  split
  case isTrue => exact (setRec_record_self _ _).symm
  case isFalse hne =>
    have hcode := fun hc => h ⟨hc, hne⟩
    rw [movePole_of_not_dropped s w _ hcode, enter_of_not_dropped _ _ hcode]

theorem evalPole_pole : (s.evalPole w (zoneOf s.scan w) (liveOf s.scan w)).pole =
    watchPassed s.scan s.port.settings s.countStamp w s.pole := by
  rw [evalPole_eq]
  unfold watchPassed recPassed
  by_cases hd : passDrops s.scan s.port.settings s.pole w
  · have hl : ¬(passNext s.scan s.port.settings s.pole w = .lowered ∧ s.pole.lowerHeard = true) :=
      fun hl => absurd hd.1 (by simp [hl.1, PoleState.code])
    simp only [if_neg hl, if_pos hd, if_neg hd.2, passMove_pole_of_drop hd]
  · rw [if_neg hd]
    split
    · simp [State.clearDroppedOpen, passMove_pole_of_not_drop hd]
    · exact passMove_pole_of_not_drop hd

theorem noticed_evalPole_iff (m : Notice) :
    noticed (s.evalPole w (zoneOf s.scan w) (liveOf s.scan w)) m ↔ noticed (passMove s w) m := by
  rw [evalPole_eq]
  split <;> rfl

theorem noticed_evalPole {s : State} {m : Notice} {w : PoleName} {z : Zone} {l : Bool} (h : noticed s m) :
    noticed (s.evalPole w z l) m := by
  have moved : ∀ {c : Prop} [Decidable c] {a : PoleState} {n : Nat},
      noticed (if c then s else s.movePole w a n) m := noticed_ite h (noticed_movePole h)
  exact noticed_ite moved moved

/-- R103: a pole whose state changes at the pass end has its notice. -/
theorem noticed_evalPole_self {s : State} {w : PoleName}
    (h : passNext s.scan s.port.settings s.pole w ≠ (s.pole.record w).st) :
    noticed (s.evalPole w (zoneOf s.scan w) (liveOf s.scan w))
      ⟨.pole, poleBase w + (passNext s.scan s.port.settings s.pole w).code,
        poleNoticeValue (s.pole.record w).st (passNext s.scan s.port.settings s.pole w), s.countStamp⟩ := by
  rw [noticed_evalPole_iff, passMove, if_neg h]
  exact noticed_movePole_self s w _ _

/-- R103: a drop at the pass end that finds ARC_CUT released has the notice of its assertion. -/
theorem noticed_evalPole_asserts {s : State} {w : PoleName} (h : passDrops s.scan s.port.settings s.pole w)
    (hc : s.pole.arcCut = false) :
    noticed (s.evalPole w (zoneOf s.scan w) (liveOf s.scan w)) ⟨.pole, 32, 0, s.countStamp⟩ := by
  rw [noticed_evalPole_iff, passMove, if_neg h.2]
  exact noticed_movePole_asserts w _ h.1 hc

end Evaluation

section Pass

/-- The pole records with their timers running again and POS evaluated (R79, R105). -/
def posPassed (s : State) : State :=
  (s.setPole { s.pole with paused := false }).evalPole .pos (zoneOf s.scan .pos) (liveOf s.scan .pos)

/-- NEG evaluated after POS. -/
def bothPassed (s : State) : State :=
  (posPassed s).evalPole .neg (zoneOf s.scan .neg) (liveOf s.scan .neg)

variable {s : State} {w : PoleName}

theorem polePass_delivered (hp : s.isPole = true) (hs : s.scan.settled = true) :
    s.polePass = (bothPassed s).releaseArcCut s.countStamp := if_pos (by simp [hp, hs])

theorem posPassed_pole (s : State) : (posPassed s).pole =
    watchPassed s.scan s.port.settings s.countStamp .pos { s.pole with paused := false } :=
  evalPole_pole (s.setPole { s.pole with paused := false }) .pos

/-- The blocks that an evaluation reads outside pole watch. -/
theorem posPassed_frame (s : State) : (posPassed s).scan = s.scan ∧ (posPassed s).port.settings = s.port.settings ∧
    (posPassed s).countStamp = s.countStamp := by
  simp [posPassed, State.countStamp]

theorem bothPassed_pole (s : State) : (bothPassed s).pole =
    watchPassed s.scan s.port.settings s.countStamp .neg (posPassed s).pole := by
  obtain ⟨hscan, hset, hstamp⟩ := posPassed_frame s
  have h := evalPole_pole (posPassed s) .neg
  rwa [hscan, hset, hstamp] at h

/-- The evaluation of POS leaves what the pass end finds at NEG. -/
theorem posPassed_neg (s : State) : (posPassed s).pole.record .neg = s.pole.record .neg ∧
    passNext s.scan s.port.settings (posPassed s).pole .neg = passNext s.scan s.port.settings s.pole .neg := by
  rw [posPassed_pole, watchPassed_record_of_ne _ _ _ _ (by decide), passNext_watchPassed _ _ _ _ (by decide)]
  exact ⟨rfl, rfl⟩

theorem bothPassed_frame (s : State) : (bothPassed s).pole.lowerHeard = s.pole.lowerHeard ∧
    (bothPassed s).pole.heldSpeed = s.pole.heldSpeed ∧ (bothPassed s).pole.paused = false := by
  rw [bothPassed_pole, posPassed_pole]
  simp

/-- Each record after the pass end is the one of before, taken into the state that the tables give it. -/
theorem bothPassed_record (s : State) (w : PoleName) : (bothPassed s).pole.record w =
    recPassed (s.pole.record w) (passNext s.scan s.port.settings s.pole w) s.pole.lowerHeard s.countStamp := by
  rw [bothPassed_pole]
  cases w
  case pos =>
    rw [watchPassed_record_of_ne _ _ _ _ (by decide), posPassed_pole, watchPassed_record_self]
    rfl
  case neg =>
    obtain ⟨hrec, hnext⟩ := posPassed_neg s
    rw [watchPassed_record_self, hrec, hnext, posPassed_pole, (watchPassed_frame ..).1]

/-- A drop of either pole leaves ARC_CUT asserted, its minimum timer started (R91, R101). -/
theorem bothPassed_of_drop (h : passDrops s.scan s.port.settings s.pole w) :
    (bothPassed s).pole.arcCut = true ∧ (bothPassed s).pole.arcMin = some s.port.settings.arcCutMin := by
  rw [bothPassed_pole]
  by_cases hneg : passDrops s.scan s.port.settings (posPassed s).pole .neg
  · exact watchPassed_of_drop _ hneg
  · rw [passDrops, (posPassed_neg s).1, (posPassed_neg s).2] at hneg
    cases w
    case neg => exact absurd h hneg
    case pos =>
      obtain ⟨hcut, hmin⟩ := watchPassed_of_not_drop (p := (posPassed s).pole) s.countStamp
        (by rwa [passDrops, (posPassed_neg s).1, (posPassed_neg s).2])
      rw [hcut, hmin, posPassed_pole]
      exact watchPassed_of_drop s.countStamp h

theorem bothPassed_of_arcCut (h : s.pole.arcCut = true) :
    (bothPassed s).pole.arcCut = true ∧ (bothPassed s).pole.arcMs = s.pole.arcMs := by
  obtain ⟨hcut, hms⟩ := watchPassed_of_arcCut s.scan s.port.settings s.countStamp .pos
    (p := { s.pole with paused := false }) h
  rw [← posPassed_pole] at hcut hms
  rw [bothPassed_pole, ← show _ = s.pole.arcMs from hms]
  exact watchPassed_of_arcCut _ _ _ _ hcut

theorem noticed_bothPassed_self (h : passNext s.scan s.port.settings s.pole w ≠ (s.pole.record w).st) :
    noticed (bothPassed s)
      ⟨.pole, poleBase w + (passNext s.scan s.port.settings s.pole w).code,
        poleNoticeValue (s.pole.record w).st (passNext s.scan s.port.settings s.pole w), s.countStamp⟩ := by
  cases w
  case pos =>
    exact noticed_evalPole (noticed_evalPole_self (s := s.setPole { s.pole with paused := false }) (w := .pos) h)
  case neg =>
    obtain ⟨hscan, hset, hstamp⟩ := posPassed_frame s
    obtain ⟨hrec, hnext⟩ := posPassed_neg s
    have hself := noticed_evalPole_self (s := posPassed s) (w := .neg)
    rw [hscan, hset, hstamp, hrec, hnext] at hself
    exact hself h

theorem noticed_bothPassed_asserts (h : passDrops s.scan s.port.settings s.pole w) (hc : s.pole.arcCut = false) :
    noticed (bothPassed s) ⟨.pole, 32, 0, s.countStamp⟩ := by
  by_cases hpos : passDrops s.scan s.port.settings s.pole .pos
  · exact noticed_evalPole (noticed_evalPole_asserts (s := s.setPole { s.pole with paused := false }) hpos hc)
  · cases w
    case pos => exact absurd h hpos
    case neg =>
      obtain ⟨hscan, hset, hstamp⟩ := posPassed_frame s
      obtain ⟨hrec, hnext⟩ := posPassed_neg s
      have hkept : (posPassed s).pole.arcCut = false := by
        rw [posPassed_pole]
        exact (watchPassed_of_not_drop (p := { s.pole with paused := false }) s.countStamp hpos).1.trans hc
      have hself := noticed_evalPole_asserts (s := posPassed s) (w := .neg)
      rw [hscan, hset, hstamp, passDrops, hrec, hnext] at hself
      exact hself h hkept

/-- Pole watch changes the notices of the port only (R79). -/
theorem portKept_polePass (s : State) : portKept s s.polePass s.port.lineUp := by
  have h := polePass_frame s
  unfold portKept
  generalize s.polePass.port = q at h ⊢
  cases q
  simp_all

end Pass

section Delivered

/-- What pole watch reads at the pass end with these levels when AN3 read this raw. -/
def passRead (p : Pins) (r : Raw) (s : State) : State :=
  (s.sense p).setScan ((passWritten s.scan s.port.settings r).choose p)

variable {p : Pins} {r : Raw} {s : State} {w : PoleName}

theorem passEnded_delivered (hp : s.isPole = true) (hs : s.scan.settled = true) :
    passEnded p r s = (bothPassed (passRead p r s)).releaseArcCut s.countStamp := by
  have hset : (passRead p r s).scan.settled = true := by
    rw [passRead, State.setScan_scan, choose_eq]
    exact hs
  exact polePass_delivered (s := passRead p r s) hp hset

/-- R79 to R92: the tables act on each record with the scanner's results of this pass. -/
theorem passEnded_record (hp : s.isPole = true) (hs : s.scan.settled = true) (w : PoleName) :
    (passEnded p r s).pole.record w = recPassed (s.pole.record w)
      (passNext (passEnded p r s).scan s.port.settings s.pole w) s.pole.lowerHeard s.countStamp := by
  have h := bothPassed_record (passRead p r s) w
  rw [passEnded_scan, passEnded_delivered hp hs, releaseArcCut_pole]
  cases w <;> exact h

/-- R102: after both records' drops, ARC_CUT stays asserted while a flag is set or its minimum timer runs. -/
theorem passEnded_arcCut (hp : s.isPole = true) (hs : s.scan.settled = true) : (passEnded p r s).pole.arcCut =
    ((bothPassed (passRead p r s)).pole.arcCut && ((passEnded p r s).pole.pos.droppedOpen ||
      (passEnded p r s).pole.neg.droppedOpen || (passEnded p r s).pole.arcMin.isSome)) := by
  simp only [passEnded_delivered hp hs, releaseArcCut_pole]

/-- The release of ARC_CUT leaves the conditions of a pass end as the records' evaluation leaves them. -/
theorem passEnded_kept (hp : s.isPole = true) (hs : s.scan.settled = true) :
    (passEnded p r s).pole.arcMin = (bothPassed (passRead p r s)).pole.arcMin ∧
      (passEnded p r s).pole.lowerHeard = s.pole.lowerHeard ∧
      (passEnded p r s).pole.heldSpeed = s.pole.heldSpeed ∧ (passEnded p r s).pole.paused = false := by
  rw [passEnded_delivered hp hs, releaseArcCut_pole]
  exact ⟨rfl, bothPassed_frame (passRead p r s)⟩

/-- R91, R101: a drop at the pass end. -/
theorem passEnded_of_drop (hp : s.isPole = true) (hs : s.scan.settled = true)
    (h : passDrops (passEnded p r s).scan s.port.settings s.pole w) :
    (passEnded p r s).pole.arcCut = true ∧
      (passEnded p r s).pole.arcMin = some s.port.settings.arcCutMin ∧
      (s.pole.arcCut = false → noticed (passEnded p r s) ⟨.pole, 32, 0, s.countStamp⟩) := by
  rw [passEnded_scan] at h
  obtain ⟨hcut, hmin⟩ := bothPassed_of_drop (s := passRead p r s) h
  have hkept : (passEnded p r s).pole.arcMin = some s.port.settings.arcCutMin :=
    (passEnded_kept hp hs).1.trans hmin
  refine ⟨?_, hkept, fun hc => ?_⟩
  · rw [passEnded_arcCut hp hs, hcut, hkept]
    simp
  · rw [passEnded_delivered hp hs]
    exact noticed_releaseArcCut (noticed_bothPassed_asserts (s := passRead p r s) h hc)

theorem noticed_passEnded_self (hp : s.isPole = true) (hs : s.scan.settled = true)
    (h : passNext (passEnded p r s).scan s.port.settings s.pole w ≠ (s.pole.record w).st) :
    noticed (passEnded p r s)
      ⟨.pole, poleBase w + (passNext (passEnded p r s).scan s.port.settings s.pole w).code,
        poleNoticeValue (s.pole.record w).st (passNext (passEnded p r s).scan s.port.settings s.pole w),
        s.countStamp⟩ := by
  rw [passEnded_scan] at h ⊢
  rw [passEnded_delivered hp hs]
  exact noticed_releaseArcCut (noticed_bothPassed_self (s := passRead p r s) h)

/-- R103: an ARC_CUT released at the pass end has its notice. -/
theorem noticed_passEnded_release (hp : s.isPole = true) (hs : s.scan.settled = true)
    (hc : s.pole.arcCut = true) (hr : (passEnded p r s).pole.arcCut = false) :
    noticed (passEnded p r s) ⟨.pole, 33, s.pole.arcMs, s.countStamp⟩ := by
  obtain ⟨hcut, hms⟩ := bothPassed_of_arcCut (s := passRead p r s) hc
  rw [passEnded_delivered hp hs] at hr ⊢
  have h := noticed_releaseArcCut_self s.countStamp hcut hr
  rwa [hms] at h

end Delivered

/-- Settles O38: each record takes the state of its table, whatever the other does, and ARC_CUT is judged after
both. -/
theorem poleTablesAtASettledPassEnd : Obligations.PoleTablesAtASettledPassEnd := by
  intro p s r hconv hawake hpole hset e lower n allowance
  obtain ⟨hmin, hlower, hspeed, hpaused⟩ := passEnded_kept (p := p) (r := r) hpole hset
  refine ⟨passEnded p r s, exec_groupAPassEnd hconv hawake, fun w => ?record, fun hc => ?cut,
    noticed_passEnded_release hpole hset, portKept_polePass (passRead p r s), hpaused, hlower, hspeed⟩
  case cut =>
    rw [passEnded_arcCut hpole hset, (bothPassed_of_arcCut (s := passRead p r s) hc).1, Bool.true_and]
  case record =>
    intro z live x y next drops value
    have hnext : next = passNext (passEnded p r s).scan e s.pole w := by
      change _ = poleNext x.st z live lower e.rewireMs allowance
      simp only [next]
      generalize x.st = a
      cases a <;> cases z <;> rfl
    have hvalue : value = poleNoticeValue x.st next := by
      simp only [value]
      cases next <;> rfl
    have hy : y = recPassed x next lower n := hnext ▸ passEnded_record hpole hset w
    clear_value next value
    subst hnext hvalue
    rw [hy]
    refine ⟨recPassed_st, recPassed_stamp, fun hd => ?_, fun hd => ?_, noticed_passEnded_self hpole hset⟩
    · rw [recPassed_of_dropped hd.1 hd.2]
      exact ⟨rfl, rfl, rfl, passEnded_of_drop hpole hset hd⟩
    · rw [recPassed_of_not_dropped hd]
      exact ⟨rfl, rfl, rfl⟩

end Sys2Proof.Proofs

/-! # Pole watch at a view update (R80, R88, R96, R103) -/

namespace Sys2Proof.Proofs

open Sys2Proof.Machine Sys2Proof.Laws

section Record

/-- A record whose gap a LOWER heard has ended (R88). -/
def gapEnded (n : Nat) (x : PoleRec) : PoleRec := if x.st.isGap = true then { x with st := .seeking, stamp := n } else x

/-- A record after an acknowledge (R96). -/
def ackTaken (x : PoleRec) : PoleRec := if x.ackable = true then { x with unacked := false } else x

/-- The end of a gap leaves what an acknowledge acts on. -/
theorem gapEnded_flags (n : Nat) (x : PoleRec) :
    (gapEnded n x).ackable = x.ackable ∧ (gapEnded n x).unacked = x.unacked := by
  unfold gapEnded
  split <;> exact ⟨rfl, rfl⟩

/-- An acknowledge acts on an acknowledgeable record that is unacknowledged, and on no other (R96). -/
theorem ackTaken_eq (x : PoleRec) :
    ackTaken x = if x.ackable && x.unacked then { x with unacked := false } else x := by
  obtain ⟨st, d, u, a, n⟩ := x
  cases a <;> cases u <;> rfl

variable (s : State) (w : PoleName) (n : Nat)

theorem lowerGap_pole : (s.lowerGap w n).pole = s.pole.setRec w (gapEnded n (s.pole.record w)) := by
  unfold State.lowerGap gapEnded
  split
  · exact movePole_of_not_dropped s w n (by decide)
  · exact (setRec_record_self _ _).symm

theorem ackPole_pole : (s.ackPole w n).pole = s.pole.setRec w (ackTaken (s.pole.record w)) := by
  rw [ackTaken_eq]
  unfold State.ackPole
  split
  · simp
  · exact (setRec_record_self _ _).symm

theorem noticed_lowerGap_self {s : State} {w : PoleName} {g l : Nat} (h : (s.pole.record w).st = .gap g l) :
    noticed (s.lowerGap w n) ⟨.pole, poleBase w + 1, g - l, n⟩ := by
  have hself := noticed_movePole_self s w .seeking n
  rw [h] at hself
  rw [State.lowerGap, if_pos (by rw [h]; rfl)]
  exact hself

theorem noticed_ackPole_self {s : State} {w : PoleName} (ha : (s.pole.record w).ackable = true)
    (hu : (s.pole.record w).unacked = true) : noticed (s.ackPole w n) ⟨.pole, poleBase w + 8, 0, n⟩ := by
  rw [State.ackPole, if_pos (by simp [ha, hu])]
  exact noticed_notify_self _ _ _ _ _

end Record

section Update

/-- Pole watch with what the round record tells it (R80). -/
def poleHeard (s : State) (r : RoundRecord) : State :=
  s.setPole { s.pole with lowerHeard := r.marks.lower, heldSpeed := s.view.maxSpeed }

/-- LOWER ends the gaps of this view update (R88, R104, R105). -/
def lowersGaps (s : State) (r : RoundRecord) : Bool := r.marks.lower && s.scan.settled && !s.pole.paused

/-- The records once LOWER has acted. -/
def poleLowered (s : State) (r : RoundRecord) : State :=
  if lowersGaps s r then ((poleHeard s r).lowerGap .pos r.stamp).lowerGap .neg r.stamp else poleHeard s r

variable {s : State} {r : RoundRecord} {w : PoleName}

theorem poleUpdate_eq (h : s.isPole = true) : s.poleUpdate r =
    if r.marks.ack then ((poleLowered s r).ackPole .pos r.stamp).ackPole .neg r.stamp else poleLowered s r :=
  if_pos h

theorem poleUpdate_of_not_pole (h : s.isPole = false) : s.poleUpdate r = s := if_neg (by simp [h])

theorem poleLowered_pole (s : State) (r : RoundRecord) : (poleLowered s r).pole =
    { s.pole with
      lowerHeard := r.marks.lower
      heldSpeed := s.view.maxSpeed
      pos := if lowersGaps s r then gapEnded r.stamp s.pole.pos else s.pole.pos
      neg := if lowersGaps s r then gapEnded r.stamp s.pole.neg else s.pole.neg } := by
  unfold poleLowered
  cases lowersGaps s r
  case false => rfl
  case true =>
    rw [if_pos rfl, lowerGap_pole, lowerGap_pole]
    rfl

theorem poleUpdate_pole (h : s.isPole = true) : (s.poleUpdate r).pole =
    { (poleLowered s r).pole with
      pos := if r.marks.ack then ackTaken (poleLowered s r).pole.pos else (poleLowered s r).pole.pos
      neg := if r.marks.ack then ackTaken (poleLowered s r).pole.neg else (poleLowered s r).pole.neg } := by
  rw [poleUpdate_eq h]
  cases r.marks.ack
  case false => rfl
  case true =>
    rw [if_pos rfl, ackPole_pole, ackPole_pole]
    rfl

/-- R103: a gap that LOWER ends has its notice, with its duration. -/
theorem noticed_poleUpdate_lowered (h : s.isPole = true) (hl : lowersGaps s r = true) {g l : Nat}
    (hg : (s.pole.record w).st = .gap g l) :
    noticed (s.poleUpdate r) ⟨.pole, poleBase w + 1, g - l, r.stamp⟩ := by
  have lowered : noticed (poleLowered s r) ⟨.pole, poleBase w + 1, g - l, r.stamp⟩ := by
    rw [poleLowered, if_pos hl]
    cases w
    case pos => exact noticed_lowerGap (noticed_lowerGap_self r.stamp hg)
    case neg =>
      refine noticed_lowerGap_self r.stamp ?_
      rw [lowerGap_pole, record_setRec_of_ne _ _ (by decide)]
      exact hg
  rw [poleUpdate_eq h]
  exact noticed_ite (noticed_ackPole (noticed_ackPole lowered)) lowered

/-- R103: an unacknowledged record that an acknowledge reaches has its notice. -/
theorem noticed_poleUpdate_acked (h : s.isPole = true) (hm : r.marks.ack = true)
    (ha : (s.pole.record w).ackable = true) (hu : (s.pole.record w).unacked = true) :
    noticed (s.poleUpdate r) ⟨.pole, poleBase w + 8, 0, r.stamp⟩ := by
  have hrec : (poleLowered s r).pole.record w =
      if lowersGaps s r then gapEnded r.stamp (s.pole.record w) else s.pole.record w := by
    rw [poleLowered_pole]
    cases w <;> rfl
  have hflags : ((poleLowered s r).pole.record w).ackable = true ∧
      ((poleLowered s r).pole.record w).unacked = true := by
    rw [hrec]
    split
    · rw [(gapEnded_flags ..).1, (gapEnded_flags ..).2]
      exact ⟨ha, hu⟩
    · exact ⟨ha, hu⟩
  obtain ⟨hla, hlu⟩ := hflags
  rw [poleUpdate_eq h, if_pos hm]
  cases w
  case pos => exact noticed_ackPole (noticed_ackPole_self r.stamp hla hlu)
  case neg =>
    have hkept : ((poleLowered s r).ackPole .pos r.stamp).pole.record .neg = (poleLowered s r).pole.record .neg := by
      rw [ackPole_pole, record_setRec_of_ne _ _ (by decide)]
    exact noticed_ackPole_self r.stamp (hkept ▸ hla) (hkept ▸ hlu)

/-- The blocks after pole watch leave every notice but a CEILING notice where it is. -/
theorem noticed_actUpdate_of_poleUpdate {m : Notice} (hn : m.kind ≠ .ceiling)
    (h : noticed ((s.arbUpdate r).poleUpdate r) m) : noticed (s.actUpdate r) m :=
  noticed_regenUpdate (noticed_feederUpdate (noticed_ceilingUpdate hn (noticed_slateUpdate h)))

end Update

section Completion

/-- What pole watch finds at its turn in the completed round's view update (R58). -/
def beforePoles (p : Pins) (s : State) : State :=
  ((((s.sense p).riseB).lineComplete (modeOfRun s.line.lowRun)).evalUpdate (recordRead s)).arbUpdate (recordRead s)

variable {p : Pins} {s : State}

/-- The blocks before pole watch leave what it reads as it was, but for the peer view (R58). -/
theorem beforePoles_frame (p : Pins) (s : State) : (beforePoles p s).pole = s.pole ∧
    (beforePoles p s).scan = s.scan ∧ (beforePoles p s).isPole = s.isPole ∧
    (beforePoles p s).view = s.view.absorb (recordRead s) := by
  have hroles := roles_congr s (beforePoles p s) (by simp [beforePoles])
  obtain ⟨-, hpole, -⟩ := hroles
  refine ⟨?_, ?_, hpole, ?_⟩ <;> simp [beforePoles, evalUpdate_view]

theorem completed_pole (p : Pins) (h : staysAwake s) :
    (completed p s).pole = ((beforePoles p s).poleUpdate (recordRead s)).pole := by
  obtain ⟨l, he⟩ := completed_eq p h
  simp [he, State.actUpdate, beforePoles]

theorem noticed_completed_of_poleUpdate {m : Notice} (h : staysAwake s) (hn : m.kind ≠ .ceiling)
    (hq : noticed ((beforePoles p s).poleUpdate (recordRead s)) m) : noticed (completed p s) m := by
  obtain ⟨l, he⟩ := completed_eq p h
  rw [he, noticed_setLine]
  exact noticed_actUpdate_of_poleUpdate hn hq

theorem beforePoles_lowersGaps (p : Pins) (s : State) : lowersGaps (beforePoles p s) (recordRead s) =
    ((rxMarks s.line.rx).lower && s.scan.settled && !s.pole.paused) := by
  obtain ⟨hpole, hscan, -, -⟩ := beforePoles_frame p s
  rw [lowersGaps, hscan, hpole, recordRead_marks]

/-- R88, R103: a gap that the completion's LOWER ends has its notice. -/
theorem noticed_completed_lowered {w : PoleName} {g l : Nat} (h : staysAwake s) (hp : s.isPole = true)
    (hg : (s.pole.record w).st = .gap g l) (hm : (rxMarks s.line.rx).lower = true)
    (hs : s.scan.settled = true) (hf : s.pole.paused = false) :
    noticed (completed p s) ⟨.pole, poleBase w + 1, g - l, (rxCount s.line.rx).toNat⟩ := by
  obtain ⟨hpole, -, hrole, -⟩ := beforePoles_frame p s
  have hlow : lowersGaps (beforePoles p s) (recordRead s) = true := by
    simp [beforePoles_lowersGaps, hm, hs, hf]
  refine noticed_completed_of_poleUpdate h (by simp)
    (noticed_poleUpdate_lowered (r := recordRead s) (hrole.trans hp) hlow ?_)
  rwa [hpole]

/-- R96, R103: a record that the completion's acknowledge reaches has its notice. -/
theorem noticed_completed_acked {w : PoleName} (h : staysAwake s) (hp : s.isPole = true)
    (hm : (rxMarks s.line.rx).ack = true) (ha : (s.pole.record w).ackable = true)
    (hu : (s.pole.record w).unacked = true) :
    noticed (completed p s) ⟨.pole, poleBase w + 8, 0, (rxCount s.line.rx).toNat⟩ := by
  obtain ⟨hpole, -, hrole, -⟩ := beforePoles_frame p s
  rw [← hpole] at ha hu
  exact noticed_completed_of_poleUpdate h (by simp)
    (noticed_poleUpdate_acked (r := recordRead s) (hrole.trans hp) hm ha hu)

end Completion

/-- Settles O27: at its turn pole watch finds its records as they were before the completion, and no later block
takes up its notices. -/
theorem poleWatchAtACompletion : Obligations.PoleWatchAtACompletion := by
  intro i p s hrow hawake m n lowered acked
  obtain ⟨hpole, -, hrole, hview⟩ := beforePoles_frame p s
  have hlowered : ∀ x, lowered x =
      if lowersGaps (beforePoles p s) (recordRead s) then gapEnded n x else x := by
    intro x
    rw [beforePoles_lowersGaps]
    simp only [lowered, gapEnded, ← ite_and, Bool.and_eq_true, Bool.not_eq_true', and_assoc, m]
  have hacked : ∀ x, acked x = if m.ack then ackTaken x else x := by
    intro x
    simp only [acked, ackTaken, ← ite_and]
  refine ⟨completed p s, exec_completionRow hrow, fun hp => ⟨?records,
    fun _ _ => noticed_completed_lowered (w := .pos) hawake hp,
    fun _ _ => noticed_completed_lowered (w := .neg) hawake hp,
    noticed_completed_acked (w := .pos) hawake hp, noticed_completed_acked (w := .neg) hawake hp⟩,
    fun hp => ?otherRole⟩
  case records =>
    rw [completed_pole p hawake, poleUpdate_pole (hrole.trans hp), poleLowered_pole, completed_view p hawake, hpole,
      hview]
    simp only [hacked, hlowered]
    rfl
  case otherRole => rw [completed_pole p hawake, poleUpdate_of_not_pole (hrole.trans hp), hpole]

end Sys2Proof.Proofs

/-! # The budget unit at a completion (R108 to R113)

The tiered allocation position by position, and what a completed round leaves of the budget unit. -/

namespace Sys2Proof.Proofs

open Sys2Proof.Machine Sys2Proof.Laws

section Allocation

/-- What a position claims in a tier: its adopted claim in its own tier, 0 in the others (R111). -/
def claimIn (es : Eight PeerEntry) (tier : Nat) (k : Fin 8) : Nat :=
  if (es.get k).st ≠ .absent ∧ (es.get k).tier = tier then (es.get k).claim else 0

/-- What a position is granted from r in the service of a tier: its claim, or its share of r (R112). -/
def tierShare (es : Eight PeerEntry) (r tier : Nat) (k : Fin 8) : Nat :=
  if (Eight.ofFn (claimIn es tier)).sum ≤ r then claimIn es tier k
  else r * claimIn es tier k / (Eight.ofFn (claimIn es tier)).sum

/-- What the service of a tier from r leaves for the tiers below (R112). -/
def tierLeft (es : Eight PeerEntry) (r tier : Nat) : Nat := r - (Eight.ofFn (tierShare es r tier)).sum

variable (es : Eight PeerEntry) (r tier a : Nat) (k : Fin 8)

theorem tierClaims_eq : tierClaims es tier = Eight.ofFn (claimIn es tier) := by
  refine eight_ext _ _ fun k => ?_
  rw [tierClaims, get_map, get_ofFn]
  simp [claimIn]

theorem allotTier_eq : allotTier r (tierClaims es tier) = Eight.ofFn (tierShare es r tier) := by
  refine eight_ext _ _ fun k => ?_
  rw [allotTier, tierClaims_eq, get_ofFn, tierShare]
  split
  · exact get_ofFn _ k
  · rw [get_map, get_ofFn]

/-- R112: tier 3 is served first, tier 2 from what it leaves, tier 1 from the rest. -/
theorem allot_eq : allot a es =
    (Eight.ofFn fun k => tierShare es a 3 k + tierShare es (tierLeft es a 3) 2 k +
      tierShare es (tierLeft es (tierLeft es a 3) 2) 1 k,
    tierLeft es (tierLeft es (tierLeft es a 3) 2) 1) := by
  simp only [allot, allotTier_eq, tierLeft, get_ofFn]

/-- A share of less than the tier's claims is no more than the position's own claim. -/
theorem tierShare_le_claimIn : tierShare es r tier k ≤ claimIn es tier k := by
  unfold tierShare
  split
  case isTrue => exact le_refl _
  case isFalse h => exact Nat.div_le_of_le_mul (Nat.mul_le_mul_right _ (not_le.1 h).le)

/-- A position claims in one tier only. -/
theorem claimIn_add_le : claimIn es 3 k + claimIn es 2 k + claimIn es 1 k ≤ (es.get k).claim := by
  unfold claimIn
  split_ifs <;> omega

/-- No position is granted more than its adopted claim (R112). -/
theorem allot_get_le : (allot a es).1.get k ≤ (es.get k).claim := by
  have h3 := tierShare_le_claimIn es a 3 k
  have h2 := tierShare_le_claimIn es (tierLeft es a 3) 2 k
  have h1 := tierShare_le_claimIn es (tierLeft es (tierLeft es a 3) 2) 1 k
  have hclaim := claimIn_add_le es k
  rw [allot_eq, get_ofFn]
  omega

/-- The grants share out the availability and no more (R112). -/
theorem allot_sum_le : (allot a es).1.sum ≤ a := by
  have h := allot_sum a es
  omega

/-- R109 in one condition for both causes of no line availability. -/
theorem lineAvail_eq (t : Settings) (off : Bool) (u : Nat) : lineAvail t off u =
    if off = true ∨ u ≤ t.uFloor then 0
    else if t.uKnee ≤ u then t.iCap
    else t.iCap * (u - t.uFloor) / (t.uKnee - t.uFloor) := by
  unfold lineAvail
  cases off <;> simp

end Allocation

section Completion

variable {p : Pins} {s : State}

theorem budgetUpdate_budget (s : State) (r : RoundRecord) : (s.budgetUpdate r).budget =
    if r.join.sending then s.budget.viewEval s.port.settings s.view r.stamp else s.budget := by
  unfold State.budgetUpdate
  split <;> simp

/-- R113: a view evaluation that changes the own grant has its notice. -/
theorem noticed_budgetUpdate_self {r : RoundRecord} (hj : r.join.sending = true)
    (hg : (s.budgetUpdate r).ownGrant ≠ s.ownGrant) :
    noticed (s.budgetUpdate r) ⟨.grant, 0, (s.budgetUpdate r).ownGrant, r.stamp⟩ := by
  have hown : (s.budgetUpdate r).ownGrant =
      (s.setBudget (s.budget.viewEval s.port.settings s.view r.stamp)).ownGrant :=
    ownGrant_congr _ _ (by simp) (by simp [budgetUpdate_budget, hj])
  rw [hown] at hg ⊢
  rw [State.budgetUpdate, if_pos hj, State.grantNotice, if_neg hg]
  exact noticed_notify_self _ _ _ _ _

theorem lineComplete_budget (s : State) (m : Mode) : (s.lineComplete m).budget =
    if s.line.leavesLimp then { s.budget with limp := false } else s.budget := by
  unfold State.lineComplete
  split <;> simp

/-- What the budget unit finds at its turn in the completed round's view update (R58). -/
def beforeBudget (p : Pins) (s : State) : State :=
  ((((s.sense p).riseB).lineComplete (modeOfRun s.line.lowRun)).absorb (recordRead s)).layoverFlag (recordRead s)

/-- The steps before the budget unit leave what it reads as it was, but for the peer view and limp (R58, R124). -/
theorem beforeBudget_frame (p : Pins) (s : State) :
    (beforeBudget p s).budget = (if s.line.leavesLimp then { s.budget with limp := false } else s.budget) ∧
    (beforeBudget p s).port.settings = s.port.settings ∧ (beforeBudget p s).straps = s.straps ∧
    (beforeBudget p s).view = s.view.absorb (recordRead s) := by
  refine ⟨?budget, ?_, ?_, ?view⟩
  case budget =>
    simp only [beforeBudget, layoverFlag_frame, absorb_frame, lineComplete_budget]
    rfl
  case view => simp [beforeBudget, State.absorb]
  all_goals simp [beforeBudget]

/-- After the budget unit's turn nothing of the view update touches it (R58). -/
theorem completed_budget (p : Pins) (h : staysAwake s) :
    (completed p s).budget = ((beforeBudget p s).budgetUpdate (recordRead s)).budget := by
  obtain ⟨l, he⟩ := completed_eq p h
  simp [he, State.evalUpdate, beforeBudget]

theorem completed_ownGrant (p : Pins) (h : staysAwake s) :
    (completed p s).ownGrant = ((beforeBudget p s).budgetUpdate (recordRead s)).ownGrant := by
  obtain ⟨l, he⟩ := completed_eq p h
  refine ownGrant_congr _ _ ?_ (congrArg Budget.grants (completed_budget p h))
  simp [he, beforeBudget]

/-- A notice of the budget unit's turn stands after the completed round. -/
theorem noticed_completed_of_budgetUpdate {m : Notice} (h : staysAwake s) (hn : m.kind ≠ .ceiling)
    (hq : noticed ((beforeBudget p s).budgetUpdate (recordRead s)) m) : noticed (completed p s) m := by
  obtain ⟨l, he⟩ := completed_eq p h
  rw [he, noticed_setLine]
  exact noticed_actUpdate hn hq

/-- R36: a station that joins or has joined stands JOINED after the completion. -/
theorem joinDone_of_sending {l : Line} (h : l.join = .joining ∨ l.join = .joined) : l.joinDone = .joined := by
  rcases h with h | h <;> simp [Line.joinDone, h]

theorem recordRead_sending (h : s.line.join = .joining ∨ s.line.join = .joined) :
    (recordRead s).join.sending = true := by
  rw [show (recordRead s).join = .joined from joinDone_of_sending h]
  rfl

/-- No other station comes to send by a completion (R23, R36, R38). -/
theorem joinDone_not_sending {l : Line} (h1 : l.join ≠ .joining) (h2 : l.join ≠ .joined) :
    l.joinDone.sending = false := by
  cases h : l.join with
  | joining => exact absurd h h1
  | joined => exact absurd h h2
  | clashed =>
    simp only [Line.joinDone, h]
    split <;> rfl
  | listen | lineDown | asleep => simp [Line.joinDone, h, JoinState.sending]

/-- The grant set of a station that does not send is kept, but for limp (R108, R124). -/
theorem completed_budget_of_not_sending (p : Pins) (h : staysAwake s) (h1 : s.line.join ≠ .joining)
    (h2 : s.line.join ≠ .joined) :
    (completed p s).budget = { s.budget with limp := (completed p s).budget.limp } := by
  obtain ⟨hbudget, -⟩ := beforeBudget_frame p s
  have hj : (recordRead s).join.sending = false := joinDone_not_sending h1 h2
  rw [completed_budget p h, budgetUpdate_budget, hj, hbudget]
  cases s.line.leavesLimp <;> rfl

/-- A station that sends stands in no limp to leave. -/
theorem beforeBudget_budget_of_sending (p : Pins) (h : s.line.join = .joining ∨ s.line.join = .joined) :
    (beforeBudget p s).budget = s.budget := by
  have hleaves : s.line.leavesLimp = false := by simp [Line.leavesLimp, joinDone_of_sending h]
  rw [(beforeBudget_frame p s).1, hleaves]
  rfl

/-- R108: a station that sends evaluates on the peer view that the completion leaves. -/
theorem completed_budget_of_sending (p : Pins) (h : staysAwake s)
    (hj : s.line.join = .joining ∨ s.line.join = .joined) : (completed p s).budget =
      s.budget.viewEval s.port.settings (completed p s).view (rxCount s.line.rx).toNat := by
  obtain ⟨-, hset, -, hview⟩ := beforeBudget_frame p s
  rw [completed_budget p h, budgetUpdate_budget, if_pos (recordRead_sending hj),
    beforeBudget_budget_of_sending p hj, hset, hview, completed_view p h, recordRead_stamp]

/-- R113: a completion that changes the own grant of a station that sends has its notice. -/
theorem noticed_completed_grant (h : staysAwake s) (hj : s.line.join = .joining ∨ s.line.join = .joined)
    (hg : (completed p s).ownGrant ≠ s.ownGrant) :
    noticed (completed p s) ⟨.grant, 0, (completed p s).ownGrant, (rxCount s.line.rx).toNat⟩ := by
  obtain ⟨-, -, hstraps, -⟩ := beforeBudget_frame p s
  have hbefore : (beforeBudget p s).ownGrant = s.ownGrant :=
    ownGrant_congr _ _ hstraps (congrArg Budget.grants (beforeBudget_budget_of_sending p hj))
  rw [completed_ownGrant p h] at hg ⊢
  rw [← hbefore] at hg
  exact noticed_completed_of_budgetUpdate h (by simp) (noticed_budgetUpdate_self (recordRead_sending hj) hg)

end Completion

/-- Settles O22: the budget unit evaluates on the peer view that the same completion leaves, and no later block
touches its grant set or takes up its notice. -/
theorem budgetEvaluationSharesAvailability : Obligations.BudgetEvaluationSharesAvailability := by
  intro i p s hrow hawake
  refine ⟨completed p s, exec_completionRow hrow, completed_budget_of_not_sending p hawake, fun hj => ?_⟩
  have hbudget := completed_budget_of_sending p hawake hj
  dsimp only
  refine ⟨?set, ?total, fun k => ?claim, noticed_completed_grant hawake hj⟩
  case set =>
    rw [hbudget, Budget.viewEval, allot_eq, lineAvail_eq]
    rfl
  case total =>
    rw [hbudget]
    exact allot_sum_le _ _
  case claim =>
    rw [hbudget]
    exact allot_get_le _ _ k

end Sys2Proof.Proofs

/-! # The measured current at a group-B pass end (R66, R115 to R118, R131, R161)

What a pass end hands to the overdraw checks, how the checks move the budget unit's counts, and what a trip does to
ceiling and feeders. -/

namespace Sys2Proof.Proofs

open Sys2Proof.Machine Sys2Proof.Laws

section Delivery

/-- The state that the overdraw checks find at the pass end with these levels when AN4 read this raw (R66, R67). -/
def currentRead (p : Pins) (r : Raw) (s : State) : State :=
  (s.sense p).setScan (s.scan.passEndB s.port.settings r p)

/-- The state that this group-B pass end leaves (R115, R118). -/
def currentChecked (p : Pins) (r : Raw) (s : State) : State := (currentRead p r s).overdrawCheck r

/-- The pass counts: the station is settled and awake and a grant set is in force (R115). -/
abbrev counted (s : State) : Prop :=
  s.scan.settled = true ∧ s.budget.kind ≠ .none ∧ s.line.join ≠ .asleep

/-- The current that this raw of AN4 stands for (R69). -/
def amps (s : State) (r : Raw) : Nat := min 1023 (r.toNat * s.port.settings.currSpan / 1024)

variable {p : Pins} {r : Raw} {s : State}

theorem exec_groupBPassEnd (hc : s.scan.conv = some ⟨.an4, r⟩) :
    exec (.groupBPassEnd p) s = .next (currentChecked p r s) := by
  simp [exec, execGroupBPassEnd, hc, State.onlyIf, Conv.isB, currentChecked, currentRead]

/-- A group-B pass end does not settle the station. -/
theorem passEndB_settled (x : Scan) (t : Settings) (r : Raw) (p : Pins) :
    (x.passEndB t r p).settled = x.settled := by
  unfold Scan.passEndB
  dsimp only
  split
  · rw [choose_eq]
  · rw [choose_eq]

theorem passCounts_currentRead (p : Pins) (r : Raw) (s : State) :
    (currentRead p r s).passCounts (!(currentRead p r s).scan.settled) = true ↔ counted s := by
  simp [currentRead, State.passCounts, passEndB_settled, counted, and_assoc]

theorem currentChecked_of_counted (p : Pins) (r : Raw) (h : counted s) :
    currentChecked p r s = (currentRead p r s).checkCurrent (amps s r) :=
  if_pos ((passCounts_currentRead p r s).2 h)

theorem currentChecked_of_not_counted (p : Pins) (r : Raw) (h : ¬counted s) :
    currentChecked p r s = currentRead p r s :=
  if_neg fun hc => h ((passCounts_currentRead p r s).1 hc)

/-- A role that draws on a grant of its own is no POLE (R63). -/
theorem isPole_of_contends (h : s.contends = true) : s.isPole = false := by
  simp only [State.contends, State.isDrive, State.isAux, State.isStore, State.isPole] at h ⊢
  cases hr : s.role <;> simp [hr] at h ⊢

/-- A box with a ceiling has no feeder table (R126, R154). -/
theorem isAux_of_hasCeiling (h : s.hasCeiling = true) : s.isAux = false := by
  simp only [State.hasCeiling, State.isDrive, State.isAux, State.isStore] at h ⊢
  cases hr : s.role <;> simp [hr] at h ⊢

end Delivery

/-! ## The vehicle overcurrent check -/

section Vehicle

variable {b : Budget} {t : Settings} {i : Nat}

/-- The budget unit after a counted pass at the POLE (R118). -/
def vehicleChecked (b : Budget) (t : Settings) (i : Nat) : Budget := { (b.vehicleCheck t i) with lastI := i }

theorem vehicleChecked_within (h : i ≤ b.avail + t.lineMargin) :
    vehicleChecked b t i = { b with lastI := i, overCurrent := 0 } := by
  rw [vehicleChecked, Budget.vehicleCheck, if_neg (not_lt.2 h)]

theorem vehicleChecked_above (h : b.avail + t.lineMargin < i) (hc : b.overCurrent < 2) :
    vehicleChecked b t i = { b with lastI := i, overCurrent := b.overCurrent + 1 } := by
  rw [vehicleChecked, Budget.vehicleCheck, if_pos h, if_pos (by omega)]

/-- R118: the third reading in a row above availability and margin starts a cut hold. -/
theorem vehicleChecked_third (h : b.avail + t.lineMargin < i) (hc : 2 ≤ b.overCurrent) :
    vehicleChecked b t i = { b with lastI := i, overCurrent := 0, cutHold := t.cutHold } := by
  rw [vehicleChecked, Budget.vehicleCheck, if_pos h, if_neg (by omega)]

theorem currentChecked_of_pole {s : State} (p : Pins) (r : Raw) (hp : s.isPole = true) (h : counted s) :
    currentChecked p r s =
      (currentRead p r s).setBudget (vehicleChecked s.budget s.port.settings (amps s r)) := by
  rw [currentChecked_of_counted p r h]
  exact if_pos hp

/-- The check at the POLE touches the budget unit only (R118). -/
theorem currentChecked_frame_of_pole {s : State} (p : Pins) (r : Raw) (hp : s.isPole = true) :
    (currentChecked p r s).ceil = s.ceil ∧ (currentChecked p r s).feed = s.feed ∧
      (currentChecked p r s).port = s.port ∧ (currentChecked p r s).pole = s.pole := by
  by_cases h : counted s
  · rw [currentChecked_of_pole p r hp h]
    exact ⟨rfl, rfl, rfl, rfl⟩
  · rw [currentChecked_of_not_counted p r h]
    exact ⟨rfl, rfl, rfl, rfl⟩

end Vehicle

/-- Settles O41: a counted pass at the POLE is the vehicle check, in its three cases. -/
theorem vehicleOvercurrentCheck : Obligations.VehicleOvercurrentCheck := by
  intro p s r hconv hpole b a counts
  refine ⟨currentChecked p r s, exec_groupBPassEnd hconv, fun hn => ?uncounted, fun hc hle => ?within,
    fun hc hlt hm => ?above, fun hc hlt hm => ?third, currentChecked_frame_of_pole p r hpole⟩
  case uncounted =>
    rw [currentChecked_of_not_counted p r hn]
    rfl
  all_goals rw [currentChecked_of_pole p r hpole hc, State.setBudget_budget]
  case within => exact vehicleChecked_within hle
  case above => exact vehicleChecked_above hlt hm
  case third => exact vehicleChecked_third hlt hm

/-! ## The own overdraw check -/

section Counts

variable {b : Budget} {margin g i : Nat}

theorem moveCounts_over (h : g + margin < i) : b.moveCounts margin g i =
    { b with overCount := if b.ownOverdraw then 0 else b.overCount + 1, underCount := 0 } := if_pos h

theorem moveCounts_between (h : g < i) (hm : i ≤ g + margin) :
    b.moveCounts margin g i = { b with overCount := 0, underCount := 0 } :=
  (if_neg (not_lt.2 hm)).trans (if_pos h)

theorem moveCounts_within (h : i ≤ g) : b.moveCounts margin g i =
    { b with overCount := 0, underCount := if b.ownOverdraw then min 3 (b.underCount + 1) else 0 } :=
  (if_neg (by omega)).trans (if_neg (not_lt.2 h))

/-- A third counted pass in a row over grant and margin, with no own overdraw standing, trips (R115, R116). -/
abbrev tripsAt (b : Budget) (margin g i : Nat) : Prop :=
  g + margin < i ∧ b.ownOverdraw = false ∧ b.overCount = 2

theorem moveCounts_overCount_eq_three_iff :
    (b.moveCounts margin g i).overCount = 3 ↔ tripsAt b margin g i := by
  by_cases h : g + margin < i
  · cases ho : b.ownOverdraw <;> simp [moveCounts_over h, tripsAt, h, ho]
  · by_cases hg : g < i
    · simp [moveCounts_between hg (not_lt.1 h), tripsAt, h]
    · simp [moveCounts_within (not_lt.1 hg), tripsAt, h]

/-- R116: short of an under count of 3 own overdraw stands as it is. -/
theorem backWithin_of_ne (h : b.underCount ≠ 3) : b.backWithin = b := if_neg h

/-- R116. -/
theorem backWithin_of_eq (h : b.underCount = 3) :
    b.backWithin = { b with ownOverdraw := false, underCount := 0 } := if_pos h

/-- The budget unit after a counted pass that does not trip (R115, R116). -/
def ownChecked (b : Budget) (margin g i : Nat) : Budget :=
  ({ (b.moveCounts margin g i) with lastI := i } : Budget).backWithin

theorem ownChecked_over (h : g + margin < i) : ownChecked b margin g i =
    { b with lastI := i, underCount := 0, overCount := if b.ownOverdraw then 0 else b.overCount + 1 } := by
  rw [ownChecked, moveCounts_over h]
  exact backWithin_of_ne (by simp)

theorem ownChecked_between (h : g < i) (hm : i ≤ g + margin) :
    ownChecked b margin g i = { b with lastI := i, underCount := 0, overCount := 0 } := by
  rw [ownChecked, moveCounts_between h hm]
  exact backWithin_of_ne (by simp)

theorem ownChecked_within (h : i ≤ g) (ho : b.ownOverdraw = false) :
    ownChecked b margin g i = { b with lastI := i, underCount := 0, overCount := 0 } := by
  rw [ownChecked, moveCounts_within h, ho]
  exact backWithin_of_ne (by simp)

theorem ownChecked_recovering (h : i ≤ g) (ho : b.ownOverdraw = true) (hu : b.underCount < 2) :
    ownChecked b margin g i = { b with lastI := i, underCount := b.underCount + 1, overCount := 0 } := by
  have hmin : min 3 (b.underCount + 1) = b.underCount + 1 := by omega
  rw [ownChecked, moveCounts_within h, if_pos ho, hmin]
  exact backWithin_of_ne (by simp only; omega)

/-- R116: the third counted pass in a row within the grant ends own overdraw. -/
theorem ownChecked_recovered (h : i ≤ g) (ho : b.ownOverdraw = true) (hu : 2 ≤ b.underCount) :
    ownChecked b margin g i =
      { b with lastI := i, underCount := 0, overCount := 0, ownOverdraw := false } := by
  have hmin : min 3 (b.underCount + 1) = 3 := by omega
  rw [ownChecked, moveCounts_within h, if_pos ho, hmin]
  exact backWithin_of_eq rfl

end Counts

section Shed

/-- The feeder that is shed first is the only one that no other energized feeder goes before (R159, R161). -/
theorem shedTarget_eq_some {f : Eight Feeder} {k : Fin 8} (hk : (f.get k).st.energized = true)
    (hfirst : ((f.get k).st = .inrush ∧ (∀ l, l < k → (f.get l).st ≠ .inrush)) ∨
      ((∀ l, (f.get l).st ≠ .inrush) ∧ ∀ l, k < l → (f.get l).st.energized = false)) :
    shedTarget f = some k := by
  cases ht : shedTarget f with
  | none => exact absurd hk (by simp [shedTarget_none f ht k])
  | some i =>
    by_contra hne
    have hbefore := shedTarget_first f i ht k (fun e => hne (by rw [e])) hk
    rcases hfirst with ⟨hin, hlow⟩ | ⟨hnone, hhigh⟩
    · have hi : (f.get i).st = .inrush ∧ i < k := by simpa [shedsBefore, hin] using hbefore
      exact hlow i hi.2 hi.1
    · have hi : ((f.get i).st = .on ∧ (f.get k).st = .on) ∧ k < i := by
        simpa [shedsBefore, hnone i] using hbefore
      exact absurd (hhigh i hi.2) (by simp [hi.1.1, FeederState.energized])

theorem shedTarget_eq_none {f : Eight Feeder} (h : ∀ k, (f.get k).st.energized = false) :
    shedTarget f = none := by
  cases ht : shedTarget f with
  | none => rfl
  | some i => exact absurd (shedTarget_energized f i ht) (by simp [h i])

variable {s : State} {n : Nat}

theorem overdrawShed_of_not_aux (h : s.isAux = false) : s.overdrawShed n = s := if_neg (by simp [h])

theorem overdrawShed_of_none (h : ∀ k, (s.feed.get k).st.energized = false) : s.overdrawShed n = s := by
  unfold State.overdrawShed
  rw [shedTarget_eq_none h]
  exact ite_self s

theorem overdrawShed_of_some {k : Fin 8} (h : s.isAux = true) (hk : shedTarget s.feed = some k) :
    s.overdrawShed n = s.moveFeeder k .waiting 6 n := by
  rw [State.overdrawShed, if_pos h, hk]

end Shed

section Trip

variable (s : State)

theorem ceilingCutNow_of_not_ceiling {s : State} (h : s.hasCeiling = false) : s.ceilingCutNow = s :=
  if_neg (by simp [h])

/-- R131. -/
theorem ceilingCutNow_ceil {s : State} (h : s.hasCeiling = true) : s.ceilingCutNow.ceil = s.ceil.cutCase := by
  rw [State.ceilingCutNow, if_pos h, putCeil_ceil]

/-- R137: a ceiling unit that was not at 0 in HELD_ZERO has its notice of the cut. -/
theorem noticed_ceilingCutNow_self {s : State} (h : s.hasCeiling = true)
    (hc : s.ceil.ceiling ≠ 0 ∨ s.ceil.st ≠ .heldZero) :
    noticed s.ceilingCutNow ⟨.ceiling, 0, 0, s.countStamp⟩ := by
  have hchanged : ¬(s.ceil.cutCase.ceiling = s.ceil.ceiling ∧ s.ceil.cutCase.st = s.ceil.st) :=
    fun ⟨h0, hz⟩ => hc.elim (fun hne => hne h0.symm) (fun hne => hne hz.symm)
  rw [State.ceilingCutNow, if_pos h, State.putCeil, if_neg hchanged]
  exact noticed_notify_self _ _ _ _ _

/-- A trip marks own overdraw and starts the TRIP pulse, whatever the role (R116, R117). -/
theorem trip_budget : s.trip.budget = s.budget.tripped s.port.settings.tripPulse := by simp [State.trip]

/-- A trip changes the notices of the port only (R116). -/
theorem portKept_trip : portKept s s.trip s.port.lineUp := by
  have h := trip_frame s
  unfold portKept
  generalize s.trip.port = q at h ⊢
  cases q
  simp_all

/-- The state in which a trip sheds its feeder: tripped, the ceiling cut (R116, R131). -/
def tripCut : State := (s.setBudget (s.budget.tripped s.port.settings.tripPulse)).ceilingCutNow

theorem trip_eq : s.trip = (tripCut s).overdrawShed s.countStamp := rfl

theorem tripCut_frame : (tripCut s).feed = s.feed ∧ (tripCut s).isAux = s.isAux := by
  obtain ⟨-, -, -, haux, -⟩ := roles_congr s (tripCut s) (by simp [tripCut])
  exact ⟨by simp [tripCut], haux⟩

variable {s}

theorem trip_ceil_of_not_ceiling (h : s.hasCeiling = false) : s.trip.ceil = s.ceil := by
  rw [State.trip, ceilingCutNow_of_not_ceiling (by simpa using h)]
  simp

theorem trip_ceil (h : s.hasCeiling = true) : s.trip.ceil = s.ceil.cutCase := by
  have hcut := ceilingCutNow_ceil (s := s.setBudget (s.budget.tripped s.port.settings.tripPulse)) (by simpa using h)
  simpa [State.trip] using hcut

theorem noticed_trip_ceiling (h : s.hasCeiling = true) (hc : s.ceil.ceiling ≠ 0 ∨ s.ceil.st ≠ .heldZero) :
    noticed s.trip ⟨.ceiling, 0, 0, s.countStamp⟩ := by
  rw [trip_eq, overdrawShed_of_not_aux ((tripCut_frame s).2.trans (isAux_of_hasCeiling h))]
  exact noticed_ceilingCutNow_self (s := s.setBudget _) (by simpa using h) hc

theorem trip_feed_of_not_aux (h : s.isAux = false) : s.trip.feed = s.feed := by
  obtain ⟨hfeed, haux⟩ := tripCut_frame s
  rw [trip_eq, overdrawShed_of_not_aux (haux.trans h), hfeed]

theorem trip_feed_of_none (h : ∀ k, (s.feed.get k).st.energized = false) : s.trip.feed = s.feed := by
  obtain ⟨hfeed, -⟩ := tripCut_frame s
  rw [trip_eq, overdrawShed_of_none (by rwa [hfeed]), hfeed]

/-- R161: at an AUX a trip sheds the feeder that is shed first, with its notice. -/
theorem trip_sheds {k : Fin 8} (h : s.isAux = true) (hk : shedTarget s.feed = some k) :
    s.trip.feed = s.feed.set k { s.feed.get k with st := .waiting, stamp := s.countStamp } ∧
      noticed s.trip ⟨.feeder, k.val, 256 * 6 + 1, s.countStamp⟩ := by
  obtain ⟨hfeed, haux⟩ := tripCut_frame s
  rw [trip_eq, overdrawShed_of_some (haux.trans h) (by rwa [hfeed]), moveFeeder_feed, hfeed]
  exact ⟨rfl, noticed_notify_self _ _ _ _ _⟩

end Trip

section Own

variable {p : Pins} {r : Raw} {s : State}

/-- The pass end trips (R115, R116). -/
abbrev tripsHere (s : State) (r : Raw) : Prop :=
  tripsAt s.budget s.port.settings.ownMargin s.ownGrant (amps s r)

/-- R115, R116: a counted current at a DRIVE, AUX or STORE, split by the over count it leaves. -/
theorem checkCurrent_of_contends (i : Nat) (h : s.contends = true) : s.checkCurrent i =
    if (s.budget.moveCounts s.port.settings.ownMargin s.ownGrant i).overCount = 3 then
      (s.setBudget { (s.budget.moveCounts s.port.settings.ownMargin s.ownGrant i) with lastI := i }).trip
    else s.setBudget (ownChecked s.budget s.port.settings.ownMargin s.ownGrant i) := by
  rw [State.checkCurrent, if_neg (by simp [isPole_of_contends h]), if_pos h]
  rfl

/-- A counted pass at a DRIVE, AUX or STORE that does not trip moves the counts only (R115, R116). -/
theorem currentChecked_of_counts (p : Pins) (hr : s.contends = true) (h : counted s) (hn : ¬tripsHere s r) :
    currentChecked p r s = (currentRead p r s).setBudget
      (ownChecked s.budget s.port.settings.ownMargin s.ownGrant (amps s r)) := by
  rw [currentChecked_of_counted p r h, checkCurrent_of_contends (s := currentRead p r s) _ hr]
  exact if_neg fun h3 => hn (moveCounts_overCount_eq_three_iff.1 h3)

/-- What a trip of this pass end finds: the counts moved and the current kept (R115). -/
def beforeTrip (p : Pins) (r : Raw) (s : State) : State :=
  (currentRead p r s).setBudget
    { (s.budget.moveCounts s.port.settings.ownMargin s.ownGrant (amps s r)) with lastI := amps s r }

theorem currentChecked_of_trip (p : Pins) (hr : s.contends = true) (h : counted s) (ht : tripsHere s r) :
    currentChecked p r s = (beforeTrip p r s).trip := by
  rw [currentChecked_of_counted p r h, checkCurrent_of_contends (s := currentRead p r s) _ hr]
  exact if_pos (moveCounts_overCount_eq_three_iff.2 ht)

/-- A pass end that does not trip leaves ceiling, feeders and port (R115). -/
theorem currentChecked_frame (p : Pins) (hr : s.contends = true) (hn : ¬(counted s ∧ tripsHere s r)) :
    (currentChecked p r s).ceil = s.ceil ∧ (currentChecked p r s).feed = s.feed ∧
      (currentChecked p r s).port = s.port := by
  by_cases h : counted s
  · rw [currentChecked_of_counts p hr h fun ht => hn ⟨h, ht⟩]
    exact ⟨rfl, rfl, rfl⟩
  · rw [currentChecked_of_not_counted p r h]
    exact ⟨rfl, rfl, rfl⟩

/-- The budget unit after a trip of this pass end (R116, R117). -/
theorem beforeTrip_trip_budget (p : Pins) (ht : tripsHere s r) : (beforeTrip p r s).trip.budget =
    { s.budget with
      lastI := amps s r, underCount := 0, overCount := 0, ownOverdraw := true
      trip := some s.port.settings.tripPulse } := by
  rw [trip_budget, beforeTrip, State.setBudget_budget, moveCounts_over ht.1]
  rfl

/-- The TRIP pin follows the pulse at the roles that have it (R117). -/
theorem beforeTrip_trip_tripOut (p : Pins) (hr : s.contends = true) :
    (beforeTrip p r s).trip.tripOut = true := by
  have hrole : (beforeTrip p r s).trip.contends = s.contends := by
    have hstraps : (beforeTrip p r s).trip.straps = s.straps := by simp [beforeTrip, currentRead]
    obtain ⟨-, -, -, -, -, -, -, -, h, -⟩ := roles_congr s (beforeTrip p r s).trip hstraps
    exact h
  rw [State.tripOut, hrole, hr, trip_budget]
  rfl

end Own

/-- Settles O40: a counted pass either trips or moves the counts only, and a trip cuts the ceiling or sheds the one
feeder that is shed first. -/
theorem ownOverdrawCheck : Obligations.OwnOverdrawCheck := by
  intro p s r hconv hcontends b g margin a counts trips
  refine ⟨currentChecked p r s, exec_groupBPassEnd hconv, fun hn => ?uncounted, fun hc hn => ?moves,
    currentChecked_frame p hcontends, fun ht => ?trips⟩
  case uncounted =>
    rw [currentChecked_of_not_counted p r hn]
    rfl
  case moves =>
    rw [currentChecked_of_counts p hcontends hc fun ht => hn ⟨hc, ht⟩, State.setBudget_budget]
    exact ⟨ownChecked_over, ownChecked_between, ownChecked_within, ownChecked_recovering, ownChecked_recovered⟩
  case trips =>
    obtain ⟨hc, ht⟩ := ht
    rw [currentChecked_of_trip p hcontends hc ht]
    exact ⟨beforeTrip_trip_budget p ht, beforeTrip_trip_tripOut p hcontends, portKept_trip (beforeTrip p r s),
      trip_ceil_of_not_ceiling (s := beforeTrip p r s), trip_feed_of_not_aux (s := beforeTrip p r s),
      fun h => ⟨trip_ceil (s := beforeTrip p r s) h, noticed_trip_ceiling (s := beforeTrip p r s) h⟩,
      fun _ => trip_feed_of_none (s := beforeTrip p r s),
      fun h k hk hfirst => trip_sheds (s := beforeTrip p r s) h (shedTarget_eq_some hk hfirst)⟩

end Sys2Proof.Proofs

/-! # The notice queue as a read source (R187, R188)

What one data read does to the port, by the queue and the byte index, and what leaves the head and its latch. -/

namespace Sys2Proof.Proofs

open Sys2Proof.Machine Sys2Proof.Laws

section NoticeBytes

/-- The table of R188: the byte that each index reads, value and stamp with the high byte first. -/
def noticeByte (m : Notice) : Nat → Byte
  | 0 => BitVec.ofNat 8 m.kind.code
  | 1 => BitVec.ofNat 8 m.subject
  | 2 => BitVec.ofNat 8 (m.value / 256)
  | 3 => BitVec.ofNat 8 m.value
  | 4 => BitVec.ofNat 8 (m.stamp / 256)
  | _ => BitVec.ofNat 8 m.stamp

theorem bytes_getD_eq_noticeByte (m : Notice) {k : Nat} (hk : k ≤ 5) : m.bytes.getD k 0 = noticeByte m k :=
  match k, hk with
  | 0, _ | 1, _ | 2, _ | 3, _ | 4, _ | 5, _ => rfl

end NoticeBytes

section NoticeRead

variable {p : Port} {m : Notice} {rest : List Notice}

/-- An empty queue reads 0 and keeps its index. -/
theorem noticeRead_of_empty (h : p.queue = []) : p.noticeRead = { p with dataOut := 0 } := by
  simp only [Port.noticeRead, h]

/-- A byte before the last advances the index, and byte 0 latches the head. -/
theorem noticeRead_of_lt (h : p.queue = m :: rest) (hi : p.byteIdx < 5) :
    p.noticeRead = { p with
      dataOut := noticeByte m p.byteIdx, byteIdx := p.byteIdx + 1
      headLatched := p.headLatched || decide (p.byteIdx = 0) } := by
  simp only [Port.noticeRead, h, if_pos hi, bytes_getD_eq_noticeByte m hi.le]
  rfl

/-- The last byte removes the head; the next notice is not latched. -/
theorem noticeRead_last (h : p.queue = m :: rest) (hi : p.byteIdx = 5) :
    p.noticeRead = { p with
      dataOut := noticeByte m 5, byteIdx := 0, queue := rest, headLatched := false } := by
  simp only [Port.noticeRead, h, hi, lt_irrefl, if_false, bytes_getD_eq_noticeByte m le_rfl]

theorem exec_noticeRead {s : State} (h : s.port.source = .notices) :
    exec .noticeRead s = .next (s.setPort s.port.noticeRead) := by
  simp [exec, execNoticeRead, State.onlyIf, h]

end NoticeRead

section HeadKept

/-- A snapshot command, refused or not, leaves the queue; its frame lemma says the same of the latch. -/
theorem snapshotCmd_queue (s : State) (i j : Byte) : (s.snapshotCmd i j).port.queue = s.port.queue := by
  unfold State.snapshotCmd
  split <;> rfl

variable {p : Port} {n : Notice}

/-- R187: with none of its kind waiting unlatched, a notice is appended while there is room. -/
theorem enqueue_of_none_unlatched (h : ∀ x ∈ p.unlatched, x.kind ≠ n.kind) (hl : p.queue.length < 32) :
    p.enqueue n = { p with queue := p.queue ++ [n] } := by
  rcases enqueue_cases p n with ⟨-, ⟨x, hx, hk⟩, -⟩ | ⟨-, he⟩ | ⟨hfull, -⟩
  · exact absurd hk (h x hx)
  · exact he
  · exact absurd hl (not_lt.2 hfull)

/-- A latched head does not wait unlatched, so it is not coalesced with (R187, R188). -/
theorem unlatched_of_latched {m : Notice} {rest : List Notice} (h : p.queue = m :: rest)
    (hl : p.headLatched = true) : p.unlatched = rest := by
  simp [Port.unlatched, hl, h]

end HeadKept

/-- Settles O49: a read is split by the queue and the byte index, and a GRANT notice finds none of its kind behind
a latched head. -/
theorem noticesAreReadByteByByte : Obligations.NoticesAreReadByteByByte := by
  intro s
  refine ⟨rfl, fun hsrc => ?reads, fun item index => ?snapshot, ⟨_, rfl, rfl, rfl⟩, ?grant⟩
  case reads =>
    rw [exec_noticeRead hsrc]
    refine ⟨fun hq _ => ?empty, ?waiting⟩
    case empty => rw [noticeRead_of_empty hq]; rfl
    case waiting =>
      intro m rest hq b
      refine ⟨fun hi => ?advances, fun hi => ?removes⟩
      case advances => rw [noticeRead_of_lt hq hi]; rfl
      case removes => rw [noticeRead_last hq hi]; rfl
  case snapshot =>
    exact ⟨s.paramsTaken.snapshotCmd item index, rfl, snapshotCmd_queue _ item index, by simp⟩
  case grant =>
    intro m rest n hq _ hlatched hn hrest hroom
    have hnone : ∀ x ∈ s.port.unlatched, x.kind ≠ n.kind := by
      rwa [unlatched_of_latched hq hlatched, hn]
    rw [enqueue_of_none_unlatched hnone hroom]

end Sys2Proof.Proofs

/-! # What a step can do (R2, R183, log 1, log 2)

Every command but POWER_ON answers one of a few effects of the blocks, with the guard under which it occurs; the
invariants are proved over the effects, not over the 54 rows. -/

namespace Sys2Proof.Proofs

open Sys2Proof.Machine Sys2Proof.Laws

section Effects

/-- The port of q is that of p but for fields that no invariant reads: the queue, its latch and the settings stay,
and the byte index stays or returns to 0. -/
def portQuiet (p q : Port) : Prop :=
  q.queue = p.queue ∧ q.headLatched = p.headLatched ∧ (q.byteIdx = p.byteIdx ∨ q.byteIdx = 0) ∧
    q.settings = p.settings

/-- The states that a command other than POWER_ON can leave of s, each with the guard of its event. -/
inductive Effect (s : State) : State → Prop where
  | nothing : Effect s s
  | sensed (p : Pins) : Effect s (s.sense p)
  | port (q : Port) (h : portQuiet s.port q) : Effect s (s.setPort q)
  | lowHalfEnd (p : Pins) (h : s.line.driver = .lowHalf) : Effect s (s.sense p).lowHalfEnd
  | fallingEdge (p : Pins) (h : s.line.edgeDue = true) : Effect s (s.sense p).fallingEdge
  | midSample (p : Pins) (h : s.line.driver = .waitRise) : Effect s (s.sense p).midSample
  | stuckLow (p : Pins) (h : s.line.driver = .waitRise) : Effect s ((s.sense p).lineFault 1 0)
  | keepalive : Effect s (s.setLine { s.line with keepalive := none, keepaliveDue := true })
  | lineWake (p : Pins) (h : s.line.join = .asleep) : Effect s ((s.sense p).wake false)
  | ownCause (p : Pins) : Effect s (s.sense p).ownCause
  | wakeCommand (p : Pins) : Effect s (s.sense p).commandByte.ownCause
  | stationReset (p : Pins) : Effect s (s.sense p).stationReset
  | conversionEnd (p : Pins) (c : Conv) : Effect s ((s.sense p).setScan ((s.scan.store c).choose p))
  | passEnd (p : Pins) (c : Conv) (h : s.line.join ≠ .asleep) :
      Effect s ((s.sense p).setScan ((s.scan.store c).passEnd s.port.settings p)).polePass
  | slowStart (p : Pins) : Effect s ((s.sense p).setScan (s.scan.startPass p))
  | slowEnd (p : Pins) (c : Conv) (h : s.line.join = .asleep) :
      Effect s ((s.sense p).setScan ((s.scan.store c).slowEnd s.port.settings p)).slowDetect
  | passEndB (p : Pins) (r : Raw) :
      Effect s (((s.sense p).setScan (s.scan.passEndB s.port.settings r p)).overdrawCheck r)
  | settled : Effect s (s.setScan (s.scan.settle s.port.settings.settleMs))
  | rewired (w : PoleName) (h : (s.pole.record w).st.isRewiring = true) :
      Effect s (((s.movePole w .onWire s.countStamp).clearDroppedOpen w).releaseArcCut s.countStamp)
  | gapExpired (w : PoleName) (h : (s.pole.record w).st.isGap = true) :
      Effect s (s.movePole w (.dropped .timed) s.countStamp)
  | arcMin : Effect s ((s.setPole { s.pole with arcMin := none }).releaseArcCut s.countStamp)
  | tripPulse : Effect s (s.setBudget { s.budget with trip := none })
  | soundDelay (n : Fin 8) (k : AlarmKind) : Effect s
      ((s.setSlate { s.slate with entries := expireDelay n k s.slate.entries }).sounderOn s.countStamp)
  | soundMin : Effect s ((s.setSlate { s.slate with minLeft := none }).sounderOffCheck s.countStamp)
  | eCut (p : Pins) : Effect s (((s.sense p).ceilingCutNow).comfortCut s.countStamp)
  | ackPress (p : Pins) : Effect s ((s.sense p).setSlate s.slate.press)
  | cfgWrite (item : Byte) (v : BitVec 16) : Effect s (s.paramsTaken.cfgWrite item v)
  | demand (v : BitVec 16) : Effect s (s.paramsTaken.demandCmd v)
  | feederMask (m : Byte) : Effect s (s.paramsTaken.feederMaskCmd m)
  | noticeRead : Effect s (s.setPort s.port.noticeRead)

variable {s t : State}

/-- A row answers its event's effect or, where the event cannot occur, the state as it is (log 1). -/
theorem onlyIf_effect {due : Bool} (h : due = true → Effect s t) :
    ∃ u, s.onlyIf due t = .next u ∧ Effect s u := by
  cases due
  case false => exact ⟨s, rfl, .nothing⟩
  case true => exact ⟨t, rfl, h rfl⟩

theorem portQuiet_refl (p : Port) : portQuiet p p := ⟨rfl, rfl, .inl rfl, rfl⟩

theorem roleValueCmd_effect (v : BitVec 16) : Effect s (s.paramsTaken.roleValueCmd v) := by
  unfold State.roleValueCmd
  split
  · exact .port _ (portQuiet_refl _)
  · exact .port _ (portQuiet_refl _)

theorem snapshotCmd_effect (i j : Byte) : Effect s (s.paramsTaken.snapshotCmd i j) := by
  unfold State.snapshotCmd
  split
  · exact .port _ (portQuiet_refl _)
  · exact .port _ (portQuiet_refl _)

theorem cfgLock_effect : Effect s s.commandByte.cfgLock := by
  unfold State.cfgLock
  split
  · exact .port _ (portQuiet_refl _)
  · exact .port _ (portQuiet_refl _)

theorem summaryRead_effect : Effect s s.summaryRead := by
  unfold State.summaryRead
  split
  · exact .port _ (portQuiet_refl _)
  · exact .port _ (portQuiet_refl _)

/-- The last parameter byte runs the whole command (R185, log 30). -/
theorem runParams_effect (c : ParamCommand) (l : List Byte) : Effect s (s.paramsTaken.runParams c l) := by
  cases c with
  | cfgWrite => exact .cfgWrite _ _
  | demand => exact .demand _
  | roleValue => exact roleValueCmd_effect _
  | feederMask => exact .feederMask _
  | snapshot => exact snapshotCmd_effect _ _

theorem parameterByte_effect (b : Byte) : Effect s (s.parameterByte b) := by
  unfold State.parameterByte
  split
  · exact .port _ (portQuiet_refl _)
  · split
    · exact .port _ (portQuiet_refl _)
    · exact runParams_effect _ _

end Effects

/-- Every command other than POWER_ON answers one of the effects. -/
theorem exec_effect (i : Instr) (s : State) (hi : ∀ st p, i ≠ .powerOn st p) :
    ∃ t, exec i s = .next t ∧ Effect s t := by
  have edge : ∀ {c : Bool} (p : Pins), ∃ t, s.onlyIf (s.line.edgeDue && c) (s.sense p).fallingEdge = .next t ∧
      Effect s t := fun p => onlyIf_effect fun h => .fallingEdge p (Bool.and_eq_true_iff.1 h).1
  have rise : s.line.sampleDue = true → s.line.driver = .waitRise := by simp [Line.sampleDue]
  have sample : ∀ {c : Bool} (p : Pins), ∃ t, s.onlyIf (s.line.sampleDue && c) (s.sense p).midSample = .next t ∧
      Effect s t := fun p => onlyIf_effect fun h => .midSample p (rise (Bool.and_eq_true_iff.1 h).1)
  cases i with
  | powerOn st p => exact absurd rfl (hi st p)
  | lowHalfExpiry p => exact onlyIf_effect fun h => .lowHalfEnd p (by simpa using h)
  | highHalfExpiry p =>
    exact onlyIf_effect fun h => .fallingEdge p (by
      simp only [Bool.and_eq_true, beq_iff_eq] at h; simp [Line.edgeDue, h.1])
  | beat p => exact onlyIf_effect fun h => .fallingEdge p h
  | midSample p => exact onlyIf_effect fun h => .midSample p (rise h)
  | paceBStuckLow p => exact onlyIf_effect fun h => .stuckLow p (rise (Bool.and_eq_true_iff.1 h).1)
  | pressedButHigh w p =>
    cases w with
    | paceB => exact onlyIf_effect fun h => .lowHalfEnd p (by simp_all)
    | paceDFrame => exact sample p
    | paceDPress => exact edge p
  | roundStart p | clash p | stopFrameTest p | recoveryEnd p =>
    simp only [exec, execRoundStart, execClash, execStopFrameTest, execRecoveryEnd, Bool.and_assoc]
    exact edge p
  | paceDStuckLow p | startFrameEvent p | roundCompletion p | roundDiscard p | resyncStopFrame p | resyncIdle p =>
    simp only [exec, execPaceDStuckLow, execStartFrameEvent, execRoundCompletion, execRoundDiscard,
      execResyncStopFrame, execResyncIdle, Bool.and_assoc]
    exact sample p
  | keepaliveExpiry => exact onlyIf_effect fun _ => .keepalive
  | lineWake p => exact onlyIf_effect fun h => .lineWake p (by simp_all)
  | conversionEnd p =>
    simp only [exec, execConversionEnd]
    split
    · exact onlyIf_effect fun _ => .conversionEnd p _
    · exact ⟨s, rfl, .nothing⟩
  | groupAPassEnd p =>
    simp only [exec, execGroupAPassEnd]
    split
    · exact onlyIf_effect fun h => .passEnd p _ (by simp_all)
    · exact ⟨s, rfl, .nothing⟩
  | slowPassStart p => exact onlyIf_effect fun _ => .slowStart p
  | slowPassEnd p =>
    simp only [exec, execSlowPassEnd]
    split
    · exact onlyIf_effect fun h => .slowEnd p _ (by simp_all)
    · exact ⟨s, rfl, .nothing⟩
  | groupBPassEnd p =>
    simp only [exec, execGroupBPassEnd]
    split
    · exact onlyIf_effect fun _ => .passEndB p _
    · exact ⟨s, rfl, .nothing⟩
  | settleExpiry => exact onlyIf_effect fun _ => .settled
  | rewireExpiry w => exact onlyIf_effect fun h => .rewired w (Bool.and_eq_true_iff.1 h).2
  | gapAllowanceExpiry w => exact onlyIf_effect fun h => .gapExpired w (Bool.and_eq_true_iff.1 h).2
  | arcCutMinExpiry => exact onlyIf_effect fun _ => .arcMin
  | tripPulseExpiry => exact onlyIf_effect fun _ => .tripPulse
  | soundDelayExpiry n k => exact onlyIf_effect fun _ => .soundDelay n k
  | soundMinExpiry => exact onlyIf_effect fun _ => .soundMin
  | eCutEdge p =>
    refine ⟨_, rfl, ?_⟩
    split
    · exact .eCut p
    · exact .sensed p
  | fullInEdge p | lowerInEdge p => exact ⟨_, rfl, .sensed p⟩
  | ackInPress p =>
    refine onlyIf_effect fun _ => ?_
    split
    · exact .ackPress p
    · exact .sensed p
  | layoverInEdge p =>
    refine ⟨_, rfl, ?_⟩
    split
    · exact .ownCause p
    · exact .sensed p
  | wakeInEdge p => exact onlyIf_effect fun _ => .ownCause p
  | wakeCommand p => exact ⟨_, rfl, .wakeCommand p⟩
  | stationReset p => exact ⟨_, rfl, .stationReset p⟩
  | cfgWrite item v => exact ⟨_, rfl, .cfgWrite item v⟩
  | cfgLock => exact ⟨_, rfl, cfgLock_effect⟩
  | demand v => exact ⟨_, rfl, .demand v⟩
  | roleValue v => exact ⟨_, rfl, roleValueCmd_effect v⟩
  | feederMask m => exact ⟨_, rfl, .feederMask m⟩
  | snapshot i j => exact ⟨_, rfl, snapshotCmd_effect i j⟩
  | notices => exact ⟨_, rfl, .port _ ⟨rfl, rfl, .inr rfl, rfl⟩⟩
  | summary => exact ⟨_, rfl, .port _ (portQuiet_refl _)⟩
  | commandIntake c => exact ⟨_, rfl, .port _ (portQuiet_refl _)⟩
  | unknownCommand code => exact onlyIf_effect fun _ => .port _ (portQuiet_refl _)
  | parameterByteWrite b => exact ⟨_, rfl, parameterByte_effect b⟩
  | statusRead => exact ⟨_, rfl, .port _ (portQuiet_refl _)⟩
  | noticeRead => exact onlyIf_effect fun _ => .noticeRead
  | snapshotRead => exact onlyIf_effect fun _ => .port _ (portQuiet_refl _)
  | summaryRead => exact onlyIf_effect fun _ => summaryRead_effect

/-- A step is a millisecond, a POWER_ON or an effect, on the state whose command is taken from the queue. -/
theorem step_cases {s t : State} (h : step s = .next t) :
    t = s.tick ∨ (∃ st p q, t = powerOnState st p q) ∨ ∃ q, Effect (s.setPending q) t := by
  unfold step at h
  split at h
  case h_1 => cases h; exact .inl rfl
  case h_2 c rest _ =>
    by_cases hi : ∃ st p, c = .powerOn st p
    · obtain ⟨st, p, rfl⟩ := hi
      cases h
      exact .inr (.inl ⟨st, p, _, rfl⟩)
    · obtain ⟨u, hu, he⟩ := exec_effect c (s.setPending rest) (fun st p hc => hi ⟨st, p, hc⟩)
      cases hu.symm.trans h
      exact .inr (.inr ⟨rest, he⟩)

end Sys2Proof.Proofs

/-! # The invariants of queue, slate, settings, grants, settling, line engine and poles -/

namespace Sys2Proof.Proofs

open Sys2Proof.Machine Sys2Proof.Laws

section LineEngine

theorem lineOk_powerOn (st : Straps) (p : Pins) (q : List Instr) : lineOk (powerOnState st p q).line := by
  have hline : (powerOnState st p q).line =
      { Line.reset with driver := driverStart p.pbHigh, beatLong := p.beatLong } := by simp [powerOnState]
  rw [hline, lineOk_iff, driverStart]
  cases p.pbHigh <;> simp [Line.reset]

/-- Every effect keeps the line engine's invariant. -/
theorem lineOk_effect {s t : State} (he : Effect s t) (h : lineOk s.line) : lineOk t.line := by
  cases he with
  | lowHalfEnd p hd => exact lineOk_lowHalfEnd _ h hd
  | fallingEdge p hd => exact lineOk_fallingEdge _ h hd
  | midSample p hd => exact lineOk_midSample _ h hd
  | stuckLow p hd =>
    refine lineOk_lineFault _ 1 0 (by decide) h (fun hj => ?_) (by simp [State.sense, hd])
    have hpins := h.2.2.2.2.2 hj
    simp_all
  | keepalive => exact h
  | lineWake p _ => exact lineOk_wake _ _ h
  | ownCause p => exact lineOk_ownCause _ h
  | wakeCommand p => exact lineOk_ownCause _ h
  | stationReset p => exact lineOk_stationReset _ h
  | slowEnd p c _ => exact lineOk_slowDetect _ h
  | _ => simpa using h

end LineEngine

/-- Settles O55: each effect keeps the line engine, by the lemma of its edge, sample, fault, wake or reset. -/
theorem everyStepKeepsTheLineEngine : Obligations.EveryStepKeepsTheLineEngine := by
  intro s t hstep h
  rcases step_cases hstep with rfl | ⟨st, p, q, rfl⟩ | ⟨q, he⟩
  · exact h
  · exact lineOk_powerOn st p q
  · exact lineOk_effect he h

section Poles

theorem polesOk_reset : polesOk State.reset.pole := by
  simp [polesOk, poleRecOk, poleFieldsOk, State.reset, PoleWatch.reset, PoleState.isDown]

theorem poleFieldsOk_tick {a : PoleState} (h : poleFieldsOk a) : poleFieldsOk a.tick := by
  cases a with
  | rewiring l => simp only [poleFieldsOk, PoleState.tick, lastMs] at h ⊢; split <;> omega
  | gap g l => simp only [poleFieldsOk, PoleState.tick, lastMs] at h ⊢; split <;> omega
  | _ => trivial

/-- A millisecond leaves each record in its state, with its timer in range (R84, R87). -/
theorem poleRecOk_tick {x : PoleRec} (run : Bool) (h : poleRecOk x) : poleRecOk (x.tick run) := by
  have hdown : x.st.tick.isDown = x.st.isDown := by cases x.st <;> rfl
  unfold PoleRec.tick
  split
  · exact ⟨poleFieldsOk_tick h.1, fun hd => h.2 (hdown ▸ hd)⟩
  · exact h

theorem polesOk_tick {p : PoleWatch} (h : polesOk p) : polesOk p.tick := by
  obtain ⟨hpos, hneg, hcut⟩ := h
  have hopen : ∀ (x : PoleRec) b, (x.tick b).droppedOpen = x.droppedOpen := by
    intro x b; cases b <;> rfl
  refine ⟨poleRecOk_tick _ hpos, poleRecOk_tick _ hneg, ?_⟩
  simpa [PoleWatch.tick, hopen] using hcut

/-- A record brought on the wire is no longer DROPPED, so its dropped-open flag may be cleared (R92). -/
theorem polesOk_clearDroppedOpen {s : State} {w : PoleName} (h : polesOk s.pole)
    (hd : (s.pole.record w).st.isDown = false) : polesOk (s.clearDroppedOpen w).pole := by
  obtain ⟨hpos, hneg, hcut, hcut'⟩ := h
  cases w with
  | pos =>
    exact ⟨⟨hpos.1, fun hc => absurd hd (by simp_all [PoleWatch.record, State.clearDroppedOpen, PoleWatch.setRec])⟩,
      hneg, by simp [State.clearDroppedOpen, PoleWatch.setRec], hcut'⟩
  | neg =>
    exact ⟨hpos, ⟨hneg.1, fun hc => absurd hd (by simp_all [PoleWatch.record, State.clearDroppedOpen, PoleWatch.setRec])⟩,
      hcut, by simp [State.clearDroppedOpen, PoleWatch.setRec]⟩

theorem polesOk_rewired (s : State) (w : PoleName) (n : Nat) (h : polesOk s.pole) :
    polesOk (((s.movePole w .onWire n).clearDroppedOpen w).releaseArcCut n).pole := by
  have hmoved : polesOk (s.movePole w .onWire n).pole :=
    polesOk_movePole s w .onWire n h trivial (fun _ hc => by cases hc)
  refine polesOk_releaseArcCut _ n (polesOk_clearDroppedOpen hmoved ?_)
  rw [movePole_of_not_dropped s w n (by decide), record_setRec_self]
  rfl

/-- Every effect keeps the pole records and ARC_CUT. -/
theorem polesOk_effect {s t : State} (he : Effect s t) (hs : settingsOk s.port.settings) (h : polesOk s.pole) :
    polesOk t.pole := by
  cases he with
  | rewired w _ => exact polesOk_rewired s w _ h
  | gapExpired w _ => exact polesOk_movePole s w _ _ h trivial (fun _ hc => by cases hc)
  | arcMin => exact polesOk_releaseArcCut _ _ h
  | passEnd p c _ => exact polesOk_polePass _ hs h
  | stationReset p => exact polesOk_stationReset _ h
  | lowHalfEnd p _ => exact polesOk_lowHalfEnd _ h
  | fallingEdge p _ => exact polesOk_fallingEdge _ h
  | midSample p _ => exact polesOk_midSample _ h
  | stuckLow p _ => exact polesOk_lineFault _ _ _ h
  | _ => simpa using h

end Poles

/-- Settles O56: the records stay in their ranges through each move, and a drop asserts ARC_CUT. -/
theorem everyStepKeepsThePoles : Obligations.EveryStepKeepsThePoles := by
  intro s t hstep hs h
  rcases step_cases hstep with rfl | ⟨st, p, q, rfl⟩ | ⟨q, he⟩
  · exact polesOk_tick h
  · simpa [powerOnState] using polesOk_reset
  · exact polesOk_effect he hs h

end Sys2Proof.Proofs

/-! # Settling (R75): a state that no run reaches -/

namespace Sys2Proof.Proofs

open Sys2Proof.Machine Sys2Proof.Laws

section Settling

theorem settingsOk_default : settingsOk Settings.default := by
  refine ⟨by simp [budgetSettingsOk, Settings.default], by simp [poleSettingsOk, Settings.default], ?_⟩
  simp [otherSettingsOk, Settings.default, get_all]

/-- PACE-B held low. -/
def pinsBLow : Pins := { Pins.reset with pbHigh := false }

/-- A station asleep with its beat driver awaiting a rise, SETTLING at an elapsed time of SETTLE_MS, and
PACE_B_STUCK_LOW waiting. The line engine's invariant excludes it: a sleeping driver is STOPPED or ends its low half. -/
def asleepAwaitingRise : State :=
  { State.reset with
    line := { Line.reset with driver := .waitRise, join := .asleep }
    scan := { Scan.reset with settleMs := 64 }
    pending := [.paceBStuckLow pinsBLow] }

/-- The line fault wakes it into LINE_DOWN, the settle timer as it stood. -/
theorem step_asleepAwaitingRise : ∃ t, step asleepAwaitingRise = .next t ∧ t.line.join = .lineDown ∧
    t.scan.settled = false ∧ t.scan.settleMs = 64 ∧ t.port.settings.settleMs = 64 :=
  ⟨_, rfl, by decide, by decide, by decide, by decide⟩

end Settling

/-- Refutes O54 in its last part, which asks nothing of the line engine: a station asleep need not be below SETTLE_MS,
and a line fault of a sleeping station, which occurs in no reachable state, leaves it awake at that elapsed time. -/
theorem not_everyStepKeepsBuffersSettingsAndGrants :
    ¬ Obligations.EveryStepKeepsBuffersSettingsAndGrants := by
  intro h
  obtain ⟨t, hstep, hjoin, hsettled, hms, hset⟩ := step_asleepAwaitingRise
  obtain ⟨-, -, -, -, hsettle⟩ := h asleepAwaitingRise t hstep
  have hlt := hsettle settingsOk_default (fun hawake => absurd rfl hawake) (by simp [hjoin]) hsettled
  omega

end Sys2Proof.Proofs

/-! # Edges, samples, faults and wakes in small moves

What an effect does to line engine, window, ceiling and feeders: a chain of calm moves, a start frame event or a
completion. The invariants of draw and window are proved move by move. -/

namespace Sys2Proof.Proofs

open Sys2Proof.Machine Sys2Proof.Laws

section Moves

/-- The line engine keeps its join state and its image, and no round comes to be in flight. -/
structure LineQuiet (l l' : Line) : Prop where
  join : l'.join = l.join
  image : l'.image = l.image
  inRound : l'.inRound → l.inRound

/-- What the invariants of draw and window read is kept. -/
structure Kept (s t : State) : Prop where
  line : LineQuiet s.line t.line
  limp : t.budget.limp = s.budget.limp
  grants : t.budget.grants = s.budget.grants
  ceil : t.ceil = s.ceil
  window : t.arb.window = s.arb.window
  feed : t.feed = s.feed
  straps : t.straps = s.straps
  settings : t.port.settings = s.port.settings
  view : t.view = s.view

/-- The moves of which an effect is made but for a start frame event and a completion. -/
inductive Calm (s : State) : State → Prop where
  | kept (t : State) (h : Kept s t) : Calm s t
  | lineDown (c v n : Nat) : Calm s (s.enterLineDown c v n)
  | clashed (k : Nat) : Calm s (s.enterClashed k)
  | asleep : Calm s s.fallAsleep
  | wake (own : Bool) (h : s.line.join = .asleep) : Calm s (s.wake own)
  | reset : Calm s s.resetAwake
  | overdraw (r : Raw) : Calm s (s.overdrawCheck r)
  | eCut (n : Nat) : Calm s (s.ceilingCutNow.comfortCut n)
  | cfgWrite (item : Byte) (v : BitVec 16) : Calm s (s.cfgWrite item v)
  | demand (v : BitVec 16) : Calm s (s.demandCmd v)
  | feederMask (m : Byte) : Calm s (s.feederMaskCmd m)

/-- A chain of calm moves. -/
abbrev CalmRun : State → State → Prop := Relation.ReflTransGen Calm

/-- What an effect comes to. -/
inductive Event (s t : State) : Prop where
  | calm (h : CalmRun s t)
  | start (u : State) (h : Kept s u) (ht : t = u.startFrame)
  | complete (u : State) (m : Mode) (h : Kept s u) (hp : u.line.phase = .stop) (ht : t = u.complete m)

variable {s t u : State} {l l' l'' : Line}

theorem LineQuiet.refl (l : Line) : LineQuiet l l := ⟨rfl, rfl, id⟩

theorem LineQuiet.trans (h : LineQuiet l l') (h' : LineQuiet l' l'') : LineQuiet l l'' :=
  ⟨h'.join.trans h.join, h'.image.trans h.image, fun hr => h.inRound (h'.inRound hr)⟩

theorem Kept.refl (s : State) : Kept s s := ⟨.refl _, rfl, rfl, rfl, rfl, rfl, rfl, rfl, rfl⟩

theorem Kept.trans (h : Kept s t) (h' : Kept t u) : Kept s u :=
  ⟨h.line.trans h'.line, h'.limp.trans h.limp, h'.grants.trans h.grants, h'.ceil.trans h.ceil,
    h'.window.trans h.window, h'.feed.trans h.feed, h'.straps.trans h.straps, h'.settings.trans h.settings,
    h'.view.trans h.view⟩

theorem Kept.run (h : Kept s t) : CalmRun s t := .single (.kept t h)

theorem Kept.event (h : Kept s t) : Event s t := .calm h.run

/-- A quiet change of the line engine. -/
theorem kept_setLine (h : LineQuiet s.line l) : Kept s (s.setLine l) := ⟨h, rfl, rfl, rfl, rfl, rfl, rfl, rfl, rfl⟩

/-- An event after a step that keeps what is read. -/
theorem Event.after (h : Kept s u) (he : Event u t) : Event s t := by
  rcases he with h' | ⟨v, hv, ht⟩ | ⟨v, m, hv, hp, ht⟩
  · exact .calm (.trans h.run h')
  · exact .start v (h.trans hv) ht
  · exact .complete v m (h.trans hv) hp ht

end Moves

section Edges

variable (l : Line) (s : State)

theorem lineQuiet_lost (n : Nat) : LineQuiet l (l.lost n) := ⟨rfl, rfl, fun h => by simp [Line.inRound, Line.lost] at h⟩

theorem lineFault_run (c n : Nat) : CalmRun s (s.lineFault c n) := by
  unfold State.lineFault
  split
  · exact Kept.run (kept_setLine ((lineQuiet_lost _ n).trans ⟨rfl, rfl, id⟩))
  · exact .single (.lineDown _ _ _)

theorem discard_run (n : Nat) : CalmRun s (s.discard n) := by
  have hlost : ∀ d, CalmRun s (s.setLine { s.line.lost n with discards := d }) := fun d =>
    Kept.run (kept_setLine ((lineQuiet_lost _ n).trans ⟨rfl, rfl, id⟩))
  unfold State.discard
  split
  · exact hlost _
  · split
    · exact hlost _
    · exact .single (.lineDown _ _ _)

theorem lineQuiet_driveStep : LineQuiet l l.driveStep := ⟨rfl, rfl, id⟩

theorem lineQuiet_drive (n : Nat) : LineQuiet l (l.drive n) := ⟨rfl, rfl, id⟩

theorem lineQuiet_recoveryStep : LineQuiet l l.recoveryStep := by
  unfold Line.recoveryStep Line.recoveryEnd
  split
  · exact ⟨rfl, rfl, id⟩
  · split
    · cases l.mode with
      | continuous => dsimp only; split <;> exact ⟨rfl, rfl, id⟩
      | quiet =>
        refine ⟨rfl, rfl, fun h => ?_⟩
        by_cases hp : l.phase = .recovery <;> simp_all [Line.inRound]
    · exact .refl l

theorem lineQuiet_slotAdvance : LineQuiet s.line s.slotAdvance.line := by
  rw [slotAdvance_line, stopTest_line]
  split
  · rename_i hp
    have hround : s.line.inRound := .inl hp
    split
    · exact ⟨rfl, rfl, id⟩
    · split <;> exact ⟨rfl, rfl, fun _ => hround⟩
  · exact .refl _

/-- The slot beat count and the stop test change the line engine only. -/
theorem slotAdvance_eq : s.slotAdvance = s.setLine s.slotAdvance.line := by
  unfold State.slotAdvance State.stopTest
  split
  · split
    · rfl
    · dsimp only; split <;> rfl
  · rfl

theorem startTest_kept : Kept s s.startTest := by
  unfold State.startTest
  split
  · exact kept_setLine (lineQuiet_drive _ _)
  · exact .refl s

theorem edgeDrives_kept : Kept s s.edgeDrives := by
  have hdrive : Kept s (s.setLine s.line.driveStep) := kept_setLine (lineQuiet_driveStep _)
  have hslot : ∀ u : State, Kept u u.slotAdvance := fun u => by
    rw [slotAdvance_eq]; exact kept_setLine (lineQuiet_slotAdvance u)
  exact ((hdrive.trans (hslot _)).trans (kept_setLine (lineQuiet_recoveryStep _))).trans (startTest_kept _)

theorem endSample_run : CalmRun s s.endSample := by
  have hlift : Kept s (s.setLine { s.line with pdLift := s.line.pressBeat && s.line.pdDrv }) :=
    kept_setLine ⟨rfl, rfl, id⟩
  unfold State.endSample
  split
  · refine .trans hlift.run ?_
    unfold State.slotEnd
    have hread : ∀ (u : State) k low, Kept u (u.setLine (u.line.readSlot k low)) :=
      fun u k low => kept_setLine ⟨rfl, rfl, id⟩
    dsimp only
    split
    · exact .tail (hread _ _ _).run (.clashed _)
    · exact (hread _ _ _).run
  · exact hlift.run

theorem fallingEdge_run : CalmRun s s.fallingEdge := by
  have hassert : CalmRun s s.assertB := (Kept.run (kept_setLine ⟨rfl, rfl, id⟩ : Kept s s.assertB))
  unfold State.fallingEdge
  dsimp only
  split
  · exact hassert.trans (lineFault_run _ _ _)
  · exact (hassert.trans (endSample_run _)).trans (edgeDrives_kept _).run

theorem lowHalfEnd_run : CalmRun s s.lowHalfEnd := by
  have hdriver : ∀ d, CalmRun s (s.setLine { s.line with driver := d, pbDrv := false }) := fun d =>
    Kept.run (kept_setLine ⟨rfl, rfl, id⟩)
  unfold State.lowHalfEnd
  split
  · exact hdriver _
  · dsimp only
    split
    · exact (hdriver _).trans (lineFault_run _ _ _)
    · exact hdriver _

end Edges

section Samples

variable (s : State)

theorem pressDrive_kept : Kept s s.pressDrive := by
  unfold State.pressDrive
  split
  · exact kept_setLine ⟨rfl, rfl, id⟩
  · exact .refl s

theorem lineQuiet_resyncHigh (l : Line) : LineQuiet l l.resyncHigh := by
  unfold Line.resyncHigh
  split
  · exact ⟨rfl, rfl, fun h => by simp [Line.inRound] at h⟩
  · split
    · refine ⟨rfl, rfl, fun h => ?_⟩
      simp only [Line.inRound, Config.startBeats] at h ⊢
      grind
    · exact ⟨rfl, rfl, fun h => by simp [Line.inRound] at h⟩

theorem countLow_event : Event s s.countLow := by
  unfold State.countLow
  split
  · exact .start s (.refl s) rfl
  · split
    · exact .calm (lineFault_run _ _ _)
    · split
      · rename_i hstart _ _
        refine Kept.event (kept_setLine ⟨rfl, rfl, fun h => ?_⟩)
        simp only [Line.inRound, Config.startBeats] at h hstart ⊢
        grind
      · exact Kept.event (kept_setLine ⟨rfl, rfl, id⟩)

theorem midIdle_kept (h : Bool) : Kept s (s.midIdle h) := by
  unfold State.midIdle
  split
  · exact .refl s
  · exact kept_setLine ⟨rfl, rfl, fun h => by simp [Line.inRound, Config.startBeats] at h⟩

theorem midResync_event (high : Bool) : Event s (s.midResync high) := by
  unfold State.midResync
  split
  · split
    · refine Kept.event (kept_setLine (.trans (l' := { s.line with ignoreRun := false, lowRun := 0 }) ⟨rfl, rfl, ?_⟩
        (lineQuiet_resyncHigh _)))
      intro h
      simp only [Line.inRound, Config.startBeats] at h ⊢
      grind
    · exact (Kept.refl s).event
  · split
    · exact Kept.event (kept_setLine (lineQuiet_resyncHigh _))
    · exact countLow_event s

theorem midFrame_event (high : Bool) (hp : s.line.phase = .frame) : Event s (s.midFrame high) := by
  unfold State.midFrame
  split
  · split
    · exact Kept.event (kept_setLine ⟨rfl, rfl, fun h => by simp [Line.inRound] at h⟩)
    · rename_i hrun
      have hopen : Kept s (s.setLine { s.line with phase := .slots, slotBeat := 0, lowRun := 0 }) :=
        kept_setLine ⟨rfl, rfl, fun _ => .inr (.inr ⟨hp, not_lt.1 hrun⟩)⟩
      exact (hopen.trans (pressDrive_kept _)).event
  · exact countLow_event s

theorem stopLow_event (hp : s.line.phase = .stop) : Event s s.stopLow := by
  unfold State.stopLow
  split
  · exact Kept.event (kept_setLine ⟨rfl, rfl, fun _ => .inr (.inl hp)⟩)
  · exact .calm (lineFault_run _ _ _)

theorem midStop_event (high : Bool) (hp : s.line.phase = .stop) : Event s (s.midStop high) := by
  unfold State.midStop
  split
  · split
    · exact .calm (discard_run _ _)
    · exact .complete s _ (.refl s) hp rfl
  · exact stopLow_event s hp

/-- The mid sample by phase. -/
theorem samplePhase_event : Event s s.samplePhase := by
  unfold State.samplePhase
  split
  · exact midResync_event s _
  · exact (midIdle_kept s _).event
  · rename_i hp; exact midFrame_event s _ hp
  · unfold State.midSlots
    split
    · exact (pressDrive_kept s).event
    · exact .calm (discard_run _ _)
  · rename_i hp; exact midStop_event s _ hp
  · exact (midIdle_kept s _).event

theorem midSample_event : Event s s.midSample := by
  have hrise : Kept s s.riseB := kept_setLine ⟨rfl, rfl, id⟩
  unfold State.midSample
  dsimp only
  split
  · exact .after hrise (.calm (lineFault_run _ _ _))
  · exact .after hrise (samplePhase_event _)

end Samples

section Wakes

variable (s : State)

theorem ownCause_run : CalmRun s s.ownCause := by
  unfold State.ownCause
  split
  · rename_i h; exact .single (.wake true h)
  · exact .refl

theorem slowDetect_run (h : s.line.join = .asleep) : CalmRun s s.slowDetect := by
  unfold State.slowDetect
  dsimp only
  split
  · exact .single (.wake true h)
  · exact Kept.run ⟨.refl _, rfl, rfl, rfl, rfl, rfl, rfl, rfl, rfl⟩

theorem stationReset_run : CalmRun s s.stationReset := .tail (ownCause_run s) .reset

theorem fallAsleep_join : s.fallAsleep.line.join = .asleep := by rw [fallAsleep_line]; rfl

/-- The layover step moves the count and may take the station to sleep, from which a level may wake it (R178, R179). -/
theorem layoverStep_run (r : RoundRecord) : CalmRun s (s.layoverStep r) := by
  have hcount : ∀ n, CalmRun s (s.setLine { s.line with layoverCount := n }) := fun n =>
    Kept.run (kept_setLine ⟨rfl, rfl, id⟩)
  unfold State.layoverStep
  dsimp only
  split
  · unfold State.enterAsleep
    split
    · exact .tail (.tail (hcount _) .asleep) (.wake true (fallAsleep_join _))
    · exact .tail (hcount _) .asleep
  · exact hcount _

end Wakes

/-- An operation of other blocks keeps what is read. -/
theorem kept_of_frame {s t : State} (hl : t.line = s.line) (hb : t.budget = s.budget) (hc : t.ceil = s.ceil)
    (ha : t.arb = s.arb) (hf : t.feed = s.feed) (hst : t.straps = s.straps)
    (hse : t.port.settings = s.port.settings) (hv : t.view = s.view) : Kept s t := by
  exact ⟨hl ▸ .refl _, by rw [hb], by rw [hb], hc, by rw [ha], hf, hst, hse, hv⟩

theorem noticeRead_settings (p : Port) : p.noticeRead.settings = p.settings := by
  unfold Port.noticeRead
  split
  · rfl
  · dsimp only; split <;> rfl

/-- Every effect is an event. -/
theorem effect_event {s t : State} (he : Effect s t) : Event s t := by
  have hsense : ∀ p, Kept s (s.sense p) := fun p => kept_of_frame rfl rfl rfl rfl rfl rfl rfl rfl
  have htaken : Kept s s.paramsTaken := kept_of_frame rfl rfl rfl rfl rfl rfl rfl rfl
  have hscan : ∀ p x, Kept s ((s.sense p).setScan x) := fun p x => kept_of_frame rfl rfl rfl rfl rfl rfl rfl rfl
  cases he with
  | nothing => exact (Kept.refl s).event
  | sensed p => exact (hsense p).event
  | port q h => exact Kept.event (kept_of_frame rfl rfl rfl rfl rfl rfl h.2.2.2 rfl)
  | noticeRead => exact Kept.event (kept_of_frame rfl rfl rfl rfl rfl rfl (noticeRead_settings _) rfl)
  | lowHalfEnd p _ => exact .after (hsense p) (.calm (lowHalfEnd_run _))
  | fallingEdge p _ => exact .after (hsense p) (.calm (fallingEdge_run _))
  | midSample p _ => exact .after (hsense p) (midSample_event _)
  | stuckLow p _ => exact .after (hsense p) (.calm (lineFault_run _ _ _))
  | keepalive => exact Kept.event (kept_setLine ⟨rfl, rfl, id⟩)
  | lineWake p h => exact .after (hsense p) (.calm (.single (.wake false h)))
  | ownCause p => exact .after (hsense p) (.calm (ownCause_run _))
  | wakeCommand p =>
    have hbyte : Kept s (s.sense p).commandByte := kept_of_frame rfl rfl rfl rfl rfl rfl rfl rfl
    exact .after hbyte (.calm (ownCause_run _))
  | stationReset p => exact .after (hsense p) (.calm (stationReset_run _))
  | conversionEnd p c => exact (hscan p _).event
  | slowStart p => exact (hscan p _).event
  | settled => exact Kept.event (kept_of_frame rfl rfl rfl rfl rfl rfl rfl rfl)
  | slowEnd p c h => exact .after (hscan p _) (.calm (slowDetect_run _ h))
  | passEndB p r => exact .after (hscan p _) (.calm (.single (.overdraw r)))
  | tripPulse => exact Kept.event ⟨.refl _, rfl, rfl, rfl, rfl, rfl, rfl, rfl, rfl⟩
  | eCut p => exact .after (hsense p) (.calm (.single (.eCut _)))
  | cfgWrite item v => exact .after htaken (.calm (.single (.cfgWrite item v)))
  | demand v => exact .after htaken (.calm (.single (.demand v)))
  | feederMask m => exact .after htaken (.calm (.single (.feederMask m)))
  | ackPress p => exact Kept.event (kept_of_frame rfl rfl rfl rfl rfl rfl rfl rfl)
  | passEnd | rewired | gapExpired | arcMin | soundDelay | soundMin =>
    exact Kept.event (kept_of_frame (by simp) (by simp) (by simp) (by simp) (by simp) (by simp) (by simp) (by simp))

/-- A millisecond keeps what the invariants of draw and window read. -/
theorem kept_tick (s : State) : Kept s s.tick := ⟨⟨rfl, rfl, id⟩, rfl, rfl, rfl, rfl, rfl, rfl, rfl, rfl⟩

/-- The waiting commands are not read. -/
theorem kept_setPending (s : State) (q : List Instr) : Kept s (s.setPending q) :=
  ⟨.refl _, rfl, rfl, rfl, rfl, rfl, rfl, rfl, rfl⟩

/-- Every step is a POWER_ON or an event. -/
theorem step_event {s t : State} (h : step s = .next t) :
    (∃ st p q, t = powerOnState st p q) ∨ Event s t := by
  rcases step_cases h with rfl | hpower | ⟨q, he⟩
  · exact .inr (kept_tick s).event
  · exact .inl hpower
  · exact .inr (.after (kept_setPending s q) (effect_event he))

end Sys2Proof.Proofs

/-! # Entry to limp and the limp evaluation (R122, R123, R133, R149, R158, R159, R162)

What a window dropped, a limp evaluation, shedding and the entry to limp leave of grants, ceiling and feeders, with
the notices of each. -/

namespace Sys2Proof.Proofs

open Sys2Proof.Machine Sys2Proof.Laws

section Port

/-- The port is kept but for LINE_UP and notices, field by field. -/
theorem portKept_iff (s t : State) (up : Bool) : portKept s t up ↔
    t.port.cd = s.port.cd ∧ t.port.refused = s.port.refused ∧ t.port.lineUp = up ∧
    t.port.locked = s.port.locked ∧ t.port.intake = s.port.intake ∧ t.port.headLatched = s.port.headLatched ∧
    t.port.byteIdx = s.port.byteIdx ∧ t.port.source = s.port.source ∧ t.port.snap = s.port.snap ∧
    t.port.snapPtr = s.port.snapPtr ∧ t.port.summaryLow = s.port.summaryLow ∧ t.port.dataOut = s.port.dataOut ∧
    t.port.demand = s.port.demand ∧ t.port.roleValue = s.port.roleValue ∧
    t.port.settings = s.port.settings := by
  unfold portKept
  generalize t.port = q
  cases q
  simp only [Port.mk.injEq, true_and]

end Port

section Roles

variable {s t : State}

/-! The roles depend on the straps only (R192). -/

theorem hasCeiling_congr (h : t.straps = s.straps) : t.hasCeiling = s.hasCeiling := by
  obtain ⟨_, _, _, _, _, _, _, hc, _⟩ := roles_congr s t h
  exact hc

theorem isAux_congr (h : t.straps = s.straps) : t.isAux = s.isAux := by
  obtain ⟨_, _, _, ha, _⟩ := roles_congr s t h
  exact ha

theorem contends_congr (h : t.straps = s.straps) : t.contends = s.contends := by
  obtain ⟨_, _, _, _, _, _, _, _, hc, _⟩ := roles_congr s t h
  exact hc

end Roles

section Feeders

variable {s : State} {n : Notice}

@[simp] theorem dropWindow_arb (s : State) : s.dropWindow.arb = ⟨0, none, .free⟩ := by
  unfold State.dropWindow
  split
  · simp
  · rfl

theorem noticed_dropWindow (h : noticed s n) : noticed s.dropWindow n := by
  unfold State.dropWindow
  split
  · exact noticed_feederBack (noticed_notify (.inl rfl) h)
  · exact h

/-- A window dropped has its notices (R149, R151, R158, R163). -/
theorem windowDropped_dropWindow (s : State) : windowDropped s s.dropWindow s.line.roundCount.toNat := by
  refine ⟨dropWindow_arb s, fun w hw => ?_⟩
  simp only [State.dropWindow, hw]
  refine ⟨noticed_feederBack (noticed_notify_self _ _ _ _ _), fun k hk hs => ?_⟩
  simp only [hk, State.feederBack, notify_frame, State.setArb_feed, hs, if_true]
  exact noticed_notify_self _ _ _ _ _

/-- What was told of a window dropped is still told after blocks that keep the notices and the arbiter. -/
theorem windowDropped_of_kept {t u : State} {k : Nat} (h : windowDropped s t k) (ha : u.arb = t.arb)
    (hn : ∀ m : Notice, m.kind ≠ .grant → m.kind ≠ .ceiling → noticed t m → noticed u m) :
    windowDropped s u k := by
  obtain ⟨harb, hnote⟩ := h
  refine ⟨ha.trans harb, fun w hw => ?_⟩
  obtain ⟨hwin, hfeed⟩ := hnote w hw
  exact ⟨hn _ (by simp) (by simp) hwin, fun k hk hs => hn _ (by simp) (by simp) (hfeed k hk hs)⟩

theorem isShed_first {nom : Eight Nat} {f : Eight Feeder} {g : Nat} {i : Fin 8} (h : shedTarget f = some i)
    (hg : g < energizedSum nom f) : isShed nom f g i = true := by
  simp [isShed, shedTarget_energized f i h, drawnWith_first nom f i h, hg]

/-- The feeders shed behind the first are those shed after it. -/
theorem isShed_after {nom : Eight Nat} {f : Eight Feeder} {g : Nat} {i k : Fin 8} (n : Nat)
    (h : shedTarget f = some i) (hk : k ≠ i) (hs : isShed nom f g k = true) :
    isShed nom (f.set i { f.get i with st := .waiting, stamp := n }) g k = true := by
  simp only [isShed, Bool.and_eq_true, decide_eq_true_eq] at hs ⊢
  obtain ⟨he, hd⟩ := hs
  rw [get_set, if_neg hk, drawnWith_shed nom f i k n h hk he]
  exact ⟨he, hd⟩

theorem not_isShed_of_fits {nom : Eight Nat} {f : Eight Feeder} {g : Nat} (h : energizedSum nom f ≤ g)
    (k : Fin 8) : isShed nom f g k = false := by
  have := drawnWith_le nom f k
  simp only [isShed, Bool.and_eq_false_iff, decide_eq_false_iff_not]
  omega

/-- Every feeder shed has its FEEDER notice (R159, R163). -/
theorem noticed_shedLoop_self {fuel g st : Nat} {k : Fin 8} (hf : energizedCount s.feed ≤ fuel)
    (hk : isShed s.port.settings.nominal s.feed g k = true) :
    noticed (State.shedLoop fuel g st s) ⟨.feeder, k.val, 256 * 4 + 1, st⟩ := by
  induction fuel generalizing s with
  | zero =>
    have hoff : (s.feed.get k).st.energized = true := by
      simp only [isShed, Bool.and_eq_true] at hk; exact hk.1
    have := energizedCount_move s.feed k ⟨true, .off, 0⟩ hoff rfl
    omega
  | succ fuel ih =>
    have hsum : g < s.energizedSum := by
      by_contra hle
      have := not_isShed_of_fits (not_lt.1 hle) k
      simp_all
    rw [State.shedLoop, if_pos hsum]
    cases ht : shedTarget s.feed with
    | none =>
      have := shedTarget_none s.feed ht k
      simp [isShed, this] at hk
    | some i =>
      dsimp only
      by_cases hki : k = i
      · subst hki
        exact noticed_shedLoop (noticed_notify_self _ _ _ _ _)
      · have hcount := energizedCount_move s.feed i { s.feed.get i with st := .waiting, stamp := st }
          (shedTarget_energized s.feed i ht) rfl
        refine ih ?_ ?_
        · rw [moveFeeder_feed]; omega
        · simpa [moveFeeder_feed] using isShed_after st ht hki hk

theorem noticed_shedToGrant_self {st : Nat} {k : Fin 8} (h : s.isAux = true)
    (hk : isShed s.port.settings.nominal s.feed s.ownGrant k = true) :
    noticed (s.shedToGrant st) ⟨.feeder, k.val, 256 * 4 + 1, st⟩ := by
  rw [State.shedToGrant, if_pos h]
  exact noticed_shedLoop_self (energizedCount_le _) hk

theorem shedToGrant_of_not_aux {st : Nat} (h : s.isAux = false) : s.shedToGrant st = s := if_neg (by simp [h])

end Feeders

section Evaluation

variable {s t : State} {f : Eight Feeder}

/-- The share depends on straps, settings and demand only. -/
theorem limpShare_congr (hs : t.straps = s.straps) (he : t.port.settings = s.port.settings)
    (hd : t.port.demand = s.port.demand) : limpShare t f = limpShare s f := by
  simp only [limpShare, isAux_congr hs, hasCeiling_congr hs, he, hd, State.auxClaim, State.energizedSum,
    State.nextFeeder]

/-- The own grant in limp is the share on the feeder table as it stands (R123). -/
theorem limpGrant_eq_limpShare (s : State) : s.limpGrant = limpShare s s.feed := by
  unfold State.limpGrant limpShare State.ownClaim
  cases hc : s.hasCeiling <;> cases ha : s.isAux <;> simp

/-- A limp evaluation of a station in limp (R123). -/
theorem limpEvaluate_budget (h : s.budget.limp = true) : s.limpEvaluate.budget = limpSet s (limpShare s s.feed) := by
  simp [State.limpEvaluate, State.limpBudget, limpSet, ← limpGrant_eq_limpShare, h, State.countStamp]

theorem limpSet_ownGrant (s : State) (g : Nat) (h : t.budget = limpSet s g) (hs : t.straps = s.straps) :
    t.ownGrant = g := by
  simp [State.ownGrant, h, limpSet, hs, get_set]

/-- The GRANT notice of a limp evaluation that changes the own grant (R113). -/
theorem noticed_limpEvaluate (h : s.ownGrant ≠ limpShare s s.feed) :
    noticed s.limpEvaluate ⟨.grant, 1, limpShare s s.feed, s.line.roundCount.toNat⟩ := by
  have hown : (s.setBudget s.limpBudget).ownGrant = limpShare s s.feed := by
    simp [State.ownGrant, State.limpBudget, get_set, limpGrant_eq_limpShare]
  have hchange : ¬(s.setBudget s.limpBudget).ownGrant = s.ownGrant := by rw [hown]; exact fun e => h e.symm
  rw [State.limpEvaluate, State.grantNotice, if_neg hchange, hown]
  exact noticed_notify_self _ _ _ _ _

theorem noticed_limpEvaluate_of {n : Notice} (hn : n.kind ≠ .grant) (h : noticed s n) :
    noticed s.limpEvaluate n := noticed_grantNotice hn h

/-- The CEILING notice of a record that is replaced (R137). -/
theorem noticed_putCeil_self {c : Ceil} {n : Nat} (h : c.ceiling ≠ s.ceil.ceiling ∨ c.st ≠ s.ceil.st) :
    noticed (s.putCeil c n) ⟨.ceiling, c.st.code, c.ceiling, n⟩ := by
  have hchange : ¬(c.ceiling = s.ceil.ceiling ∧ c.st = s.ceil.st) := by tauto
  rw [State.putCeil, if_neg hchange]
  exact noticed_notify_self _ _ _ _ _

end Evaluation

section EnterLimp

variable {s : State}

/-- The station with its window dropped and limp set, before the limp evaluation (R122, R149). -/
def limpBase (s : State) : State := s.dropWindow.setBudget { s.dropWindow.budget with limp := true }

/-- The station after the limp evaluation of its entry to limp (R123). -/
def limpEvaluated (s : State) : State := (limpBase s).limpEvaluate

theorem enterLimp_eq (s : State) :
    s.enterLimp = (limpEvaluated s).ceilingLimpEntry.shedToGrant s.line.roundCount.toNat := by
  simp [State.enterLimp, limpEvaluated, limpBase, State.feederLimp, State.countStamp]

theorem limpBase_frame (s : State) : (limpBase s).straps = s.straps ∧ (limpBase s).line = s.line ∧
    (limpBase s).feed = feedBack s ∧ (limpBase s).budget = { s.budget with limp := true } ∧
    (limpBase s).port.demand = s.port.demand ∧ (limpBase s).port.settings = s.port.settings := by
  simp [limpBase, dropWindow_feed]

/-- The grant set in force after entry to limp (R123). -/
theorem limpEvaluated_budget (s : State) :
    (limpEvaluated s).budget = limpSet s (limpShare s (feedBack s)) := by
  obtain ⟨hst, hline, hfeed, hbud, hdem, hset⟩ := limpBase_frame s
  rw [limpEvaluated, limpEvaluate_budget (by rw [hbud]), hfeed, limpShare_congr hst hset hdem]
  simp [limpSet, hbud, hline, hst, hset]

/-- The limp evaluation keeps the other blocks as the dropped window leaves them. -/
theorem limpEvaluated_frame (s : State) : (limpEvaluated s).straps = s.straps ∧
    (limpEvaluated s).pins = s.pins ∧ (limpEvaluated s).line = s.line ∧ (limpEvaluated s).ceil = s.ceil ∧
    (limpEvaluated s).feed = feedBack s ∧ (limpEvaluated s).arb = ⟨0, none, .free⟩ ∧
    (limpEvaluated s).port.demand = s.port.demand ∧
    (limpEvaluated s).port.settings = s.port.settings := by
  simp [limpEvaluated, State.limpEvaluate, limpBase, dropWindow_feed]

theorem limpEvaluated_ownGrant (s : State) : (limpEvaluated s).ownGrant = limpShare s (feedBack s) :=
  limpSet_ownGrant s _ (limpEvaluated_budget s) (limpEvaluated_frame s).1

theorem limpEvaluated_localCut (s : State) : (limpEvaluated s).localCut = s.localCut := by
  obtain ⟨_, hpins, _⟩ := limpEvaluated_frame s
  simp [State.localCut, hpins, limpEvaluated_budget, limpSet]

theorem ceilingLimpEntry_of_ceiling (h : s.hasCeiling = true) : s.ceilingLimpEntry =
    s.putCeil (s.ceil.limpEntry s.port.demand s.ownGrant s.localCut) s.line.roundCount.toNat := if_pos h

theorem ceilingLimpEntry_of_not (h : s.hasCeiling = false) : s.ceilingLimpEntry = s := if_neg (by simp [h])

theorem noticed_ceilingLimpEntry {n : Notice} (hn : n.kind ≠ .ceiling) (h : noticed s n) :
    noticed s.ceilingLimpEntry n := noticed_ite (noticed_putCeil hn h) h

@[simp] theorem enterLimp_arb (s : State) : s.enterLimp.arb = ⟨0, none, .free⟩ := by
  obtain ⟨_, _, _, _, _, harb, _⟩ := limpEvaluated_frame s
  simp [enterLimp_eq, harb]

theorem enterLimp_budget (s : State) : s.enterLimp.budget = limpSet s (limpShare s (feedBack s)) := by
  simp [enterLimp_eq, limpEvaluated_budget]

theorem enterLimp_ownGrant (s : State) : s.enterLimp.ownGrant = limpShare s (feedBack s) :=
  limpSet_ownGrant s _ (enterLimp_budget s) (by simp)

/-- The ceiling record that entry to limp leaves (R133). -/
def limpCeil (s : State) : Ceil := s.ceil.limpEntry s.port.demand (limpShare s (feedBack s)) s.localCut

theorem limpEvaluated_ceilingLimpEntry (h : s.hasCeiling = true) : (limpEvaluated s).ceilingLimpEntry =
    (limpEvaluated s).putCeil (limpCeil s) s.line.roundCount.toNat := by
  obtain ⟨hst, _, hline, hceil, _, _, hdem, _⟩ := limpEvaluated_frame s
  rw [ceilingLimpEntry_of_ceiling (by rw [hasCeiling_congr hst, h]), hceil, hdem, limpEvaluated_ownGrant,
    limpEvaluated_localCut, hline, limpCeil]

theorem enterLimp_ceil (h : s.hasCeiling = true) : s.enterLimp.ceil = limpCeil s := by
  rw [enterLimp_eq, limpEvaluated_ceilingLimpEntry h]
  simp [putCeil_ceil]

theorem enterLimp_ceil_of_not (h : s.hasCeiling = false) : s.enterLimp.ceil = s.ceil := by
  obtain ⟨hst, _, _, hceil, _⟩ := limpEvaluated_frame s
  rw [enterLimp_eq, ceilingLimpEntry_of_not (by rw [hasCeiling_congr hst, h])]
  simp [hceil]

/-- The feeder table before the shedding of an entry to limp: nothing but the window's feeder has moved. -/
theorem limpShed_frame (s : State) : (limpEvaluated s).ceilingLimpEntry.straps = s.straps ∧
    (limpEvaluated s).ceilingLimpEntry.feed = feedBack s ∧
    (limpEvaluated s).ceilingLimpEntry.port.settings = s.port.settings ∧
    (limpEvaluated s).ceilingLimpEntry.ownGrant = limpShare s (feedBack s) := by
  obtain ⟨hst, _, _, _, hfeed, _, _, hset⟩ := limpEvaluated_frame s
  have hown : (limpEvaluated s).ceilingLimpEntry.ownGrant = (limpEvaluated s).ownGrant :=
    ownGrant_congr _ _ (by simp) (by simp)
  simp [hst, hfeed, hset, hown, limpEvaluated_ownGrant]

/-- The feeder table that entry to limp leaves (R158, R159). -/
theorem enterLimp_feed (h : s.isAux = true) : s.enterLimp.feed =
    shedTable s.port.settings.nominal (feedBack s) (limpShare s (feedBack s)) s.line.roundCount.toNat := by
  obtain ⟨hst, hfeed, hset, hown⟩ := limpShed_frame s
  rw [enterLimp_eq, shedToGrant_feed _ _ (by rw [isAux_congr hst, h]), hfeed, hset, hown]

theorem enterLimp_feed_of_not (h : s.isAux = false) : s.enterLimp.feed = feedBack s := by
  obtain ⟨hst, hfeed, _⟩ := limpShed_frame s
  rw [enterLimp_eq, shedToGrant_of_not_aux (by rw [isAux_congr hst, h]), hfeed]

theorem enterLimp_energizedSum (h : s.isAux = true) : s.enterLimp.energizedSum ≤ limpShare s (feedBack s) := by
  obtain ⟨hst, _, _, hown⟩ := limpShed_frame s
  have hsum := shedToGrant_sum _ s.line.roundCount.toNat (show (limpEvaluated s).ceilingLimpEntry.isAux = true by
    rw [isAux_congr hst, h])
  rwa [hown, ← enterLimp_eq] at hsum

end EnterLimp

end Sys2Proof.Proofs

/-! # Faults, discards and clashes: the statements on entry to limp (R16 to R21, R37, R38, R122, R133) -/

namespace Sys2Proof.Proofs

open Sys2Proof.Machine Sys2Proof.Laws

section CeilingEntry

variable {c : Ceil} {d g : Nat} {cut : Bool}

theorem limpEntry_keeps : (c.limpEntry d g cut).limpCut = false ∧ (c.limpEntry d g cut).regenOk = c.regenOk := by
  unfold Ceil.limpEntry Ceil.cutCase Ceil.fallCase
  dsimp only
  repeat' split
  all_goals exact ⟨rfl, rfl⟩

theorem limpEntry_of_cut : (c.limpEntry d g true).ceiling = 0 ∧ (c.limpEntry d g true).st = .heldZero ∧
    (c.limpEntry d g true).cutHeld = true := ⟨rfl, rfl, rfl⟩

theorem limpEntry_of_ramping (h : c.st = .ramping) : (c.limpEntry d g false).ceiling = min c.ceiling g ∧
    (c.limpEntry d g false).st =
      if 0 < min c.ceiling g then .running else if 0 < d ∧ 0 < g then .waiting else .heldZero := by
  by_cases hz : min c.ceiling g = 0
  · simp [Ceil.limpEntry, h, hz, zeroState]
  · simp [Ceil.limpEntry, h, hz, Nat.pos_of_ne_zero hz]

theorem limpEntry_of_running (h : c.st = .running) (hc : 0 < c.ceiling) :
    (c.limpEntry d g false).ceiling = min c.ceiling g ∧
    (c.limpEntry d g false).st = if 0 < g then .running else .heldZero := by
  by_cases hg : g < c.ceiling
  · have hmin : min c.ceiling g = g := min_eq_right hg.le
    by_cases hz : g = 0 <;> simp [Ceil.limpEntry, Ceil.fallCase, zeroState, h, hg, hmin, hz, hc, Nat.pos_iff_ne_zero]
  · have hle : c.ceiling ≤ g := not_lt.1 hg
    simp [Ceil.limpEntry, h, hg, hle, lt_of_lt_of_le hc hle]

theorem limpEntry_of_still (h : c.st ≠ .ramping) (h' : c.st ≠ .running) :
    c.limpEntry d g false = { c with limpCut := false } := by
  cases hs : c.st <;> simp_all [Ceil.limpEntry]

end CeilingEntry

section Entered

variable {s t u : State}

/-- Notices other than GRANT and CEILING stay through the entry to limp. -/
theorem noticed_enterLimp_of_dropWindow {m : Notice} (hg : m.kind ≠ .grant) (hc : m.kind ≠ .ceiling)
    (h : noticed s.dropWindow m) : noticed s.enterLimp m := by
  rw [enterLimp_eq]
  exact noticed_shedToGrant (noticed_ceilingLimpEntry hc (noticed_limpEvaluate_of hg h))

theorem noticed_enterLimp {m : Notice} (hg : m.kind ≠ .grant) (hc : m.kind ≠ .ceiling) (h : noticed s m) :
    noticed s.enterLimp m := noticed_enterLimp_of_dropWindow hg hc (noticed_dropWindow h)

theorem noticed_enterLimp_grant (h : s.ownGrant ≠ limpShare s (feedBack s)) :
    noticed s.enterLimp ⟨.grant, 1, limpShare s (feedBack s), s.line.roundCount.toNat⟩ := by
  obtain ⟨hst, hline, hfeed, hbud, hdem, hset⟩ := limpBase_frame s
  have hshare : limpShare (limpBase s) (limpBase s).feed = limpShare s (feedBack s) := by
    rw [hfeed, limpShare_congr hst hset hdem]
  have hown : (limpBase s).ownGrant = s.ownGrant := ownGrant_congr _ _ hst (by rw [hbud])
  have hnote := noticed_limpEvaluate (s := limpBase s) (by rwa [hown, hshare])
  rw [hshare, hline] at hnote
  rw [enterLimp_eq]
  exact noticed_shedToGrant (noticed_ceilingLimpEntry (by simp) hnote)

theorem noticed_enterLimp_ceiling (h : s.hasCeiling = true)
    (hc : s.enterLimp.ceil.ceiling ≠ s.ceil.ceiling ∨ s.enterLimp.ceil.st ≠ s.ceil.st) :
    noticed s.enterLimp
      ⟨.ceiling, s.enterLimp.ceil.st.code, s.enterLimp.ceil.ceiling, s.line.roundCount.toNat⟩ := by
  obtain ⟨_, _, _, hceil, _⟩ := limpEvaluated_frame s
  rw [enterLimp_ceil h] at hc ⊢
  rw [enterLimp_eq, limpEvaluated_ceilingLimpEntry h]
  exact noticed_shedToGrant (noticed_putCeil_self (by rwa [hceil]))

theorem noticed_enterLimp_shed {k : Fin 8} (h : s.isAux = true)
    (hk : isShed s.port.settings.nominal (feedBack s) (limpShare s (feedBack s)) k = true) :
    noticed s.enterLimp ⟨.feeder, k.val, 256 * 4 + 1, s.line.roundCount.toNat⟩ := by
  obtain ⟨hst, hfeed, hset, hown⟩ := limpShed_frame s
  rw [enterLimp_eq]
  exact noticed_shedToGrant_self (by rw [isAux_congr hst, h]) (by rw [hfeed, hset, hown, hk])

/-- Entry to limp does what R122, R123, R133, R149, R158, R159 and R162 say. -/
theorem limpEntered_enterLimp (s : State) : limpEntered s s.enterLimp s.pins.eCut s.ceil.regenOk := by
  refine ⟨?_, enterLimp_budget s, noticed_enterLimp_grant, fun hc => ?_, fun hc => ?_, fun ha => ?_,
    enterLimp_feed_of_not⟩
  · exact windowDropped_of_kept (windowDropped_dropWindow s) (by simp)
      fun m hg hc => noticed_enterLimp_of_dropWindow hg hc
  · obtain ⟨hcut, hregen⟩ := limpEntry_keeps (c := s.ceil) (d := s.port.demand)
      (g := limpShare s (feedBack s)) (cut := s.localCut)
    have hceil : s.enterLimp.ceil = s.ceil.limpEntry s.port.demand (limpShare s (feedBack s)) s.localCut :=
      enterLimp_ceil hc
    refine ⟨by rw [hceil, hcut], by rw [hceil, hregen], noticed_enterLimp_ceiling hc, fun hl => ?_, fun hl => ?_⟩
    · rw [hceil, show s.localCut = true from hl]
      exact limpEntry_of_cut
    · rw [hceil, show s.localCut = false from hl]
      exact ⟨limpEntry_of_ramping, limpEntry_of_running, limpEntry_of_still⟩
  · exact enterLimp_ceil_of_not hc
  · exact ⟨enterLimp_feed ha, enterLimp_energizedSum ha, fun k => noticed_enterLimp_shed ha⟩

/-- What an entry to limp reads of the state before it, but for REGEN_OK. -/
structure LimpSame (s u : State) : Prop where
  straps : u.straps = s.straps
  window : u.arb.window = s.arb.window
  feed : u.feed = s.feed
  count : u.line.roundCount = s.line.roundCount
  budget : u.budget = s.budget
  demand : u.port.demand = s.port.demand
  settings : u.port.settings = s.port.settings
  ceil : u.ceil = { s.ceil with regenOk := u.ceil.regenOk }

theorem limpEntered_of_same {eCut : Bool} (h : LimpSame s u) (he : limpEntered u t eCut u.ceil.regenOk) :
    limpEntered s t eCut u.ceil.regenOk := by
  obtain ⟨hst, hwin, hfeed, hcount, hbud, hdem, hset, hceil⟩ := h
  have hback : feedBack u = feedBack s := by simp only [feedBack, hwin, hfeed, hcount]
  have hshare : limpShare u (feedBack s) = limpShare s (feedBack s) := limpShare_congr hst hset hdem
  have hown : u.ownGrant = s.ownGrant := ownGrant_congr _ _ hst (by rw [hbud])
  have hlimp : ∀ g, limpSet u g = limpSet s g := fun g => by simp only [limpSet, hbud, hcount, hst, hset]
  generalize u.ceil.regenOk = r at hceil he ⊢
  simp only [limpEntered, windowDropped, hback, hshare, hown, hlimp, hceil, hwin, hfeed, hcount, hdem, hset, hbud,
    hasCeiling_congr hst, isAux_congr hst] at he ⊢
  exact he

end Entered

end Sys2Proof.Proofs

/-! # Line faults, discards and clashes: the statements (R16 to R21, R37, R38) -/

namespace Sys2Proof.Proofs

open Sys2Proof.Machine Sys2Proof.Laws

section Rows

variable {i : Instr} {p : Pins} {s : State}

/-- Both edge rows answer the falling edge (R2). -/
theorem exec_edgeRow (h : edgeRow i p s) : exec i s = .next (s.sense p).fallingEdge := by
  rcases h with ⟨rfl, hd⟩ | ⟨rfl, hd, hp⟩
  · simp [exec, execBeat, State.onlyIf, hd]
  · simp [exec, execHighHalfExpiry, State.onlyIf, hd, hp]

theorem exec_midSample (p : Pins) (h : s.line.driver = .waitRise) :
    exec (.midSample p) s = .next (s.sense p).midSample := by
  simp [exec, execMidSample, State.onlyIf, Line.sampleDue, h]

/-- An edge at which the pressed slot does not read high (R20). -/
theorem fallingEdge_eq (h : s.pressHigh = false) : s.fallingEdge = s.assertB.endSample.edgeDrives := by
  have hp : s.assertB.pressHigh = false := h
  simp [State.fallingEdge, hp]

theorem fallingEdge_pressHigh (h : s.pressHigh = true) : s.fallingEdge = s.assertB.lineFault 4 0 := by
  have hp : s.assertB.pressHigh = true := h
  simp [State.fallingEdge, hp]

/-- A mid sample at which no frame of its own reads high (R20). -/
theorem midSample_eq (h : s.frameHigh = false) : s.midSample = s.riseB.samplePhase := by
  have hf : s.riseB.frameHigh = false := h
  simp [State.midSample, hf]

theorem midSample_frameHigh (h : s.frameHigh = true) : s.midSample = s.riseB.lineFault 4 0 := by
  have hf : s.riseB.frameHigh = true := h
  simp [State.midSample, hf]

theorem frameHigh_of_low {p : Pins} (h : p.pdHigh = false) : (s.sense p).frameHigh = false := by
  simp [State.frameHigh, State.sense, h]

theorem frameHigh_of_still {p : Pins} (h : s.line.driveLeft = 0) : (s.sense p).frameHigh = false := by
  simp [State.frameHigh, State.sense, h]

end Rows

section LineDown

variable {s : State} {c v n : Nat}

theorem lineFault_of_lineDown (h : s.line.join = .lineDown) :
    s.lineFault c n = s.setLine { s.line.lost n with discards := 0 } := if_pos h

theorem lineFault_of_not (h : s.line.join ≠ .lineDown) :
    s.lineFault c n = s.enterLineDown c s.line.discards n := if_neg h

theorem noticed_clearView (s : State) (m : Notice) : noticed s.clearView m ↔ noticed s m := Iff.rfl

theorem noticed_setLineUp (s : State) (b : Bool) (m : Notice) : noticed (s.setLineUp b) m ↔ noticed s m := Iff.rfl

/-- The station that enters limp at an entry to LINE_DOWN: notice, line engine and LINE_UP moved, the view cleared
(R21, R61). -/
def downBase (s : State) (c v n : Nat) : State :=
  (((s.notify .line c v s.countStamp).setLine { s.line.lost n with
    discards := 0, join := .lineDown, heard := 0, backoff := 0, layoverCount := 0 }).setLineUp false).clearView

theorem enterLineDown_eq (s : State) (c v n : Nat) : s.enterLineDown c v n = (downBase s c v n).enterLimp := rfl

theorem downBase_frame (s : State) (c v n : Nat) : (downBase s c v n).view = View.cleared ∧
    (downBase s c v n).pole = s.pole.clearHeard ∧ (downBase s c v n).pins = s.pins ∧
    (downBase s c v n).ceil.regenOk = false ∧ noticed (downBase s c v n) ⟨.line, c, v, s.countStamp⟩ := by
  refine ⟨by simp [downBase, State.clearView], ?_, ?_, by simp [downBase, State.clearView], ?_⟩
  · simp [downBase, State.clearView, State.setLineUp]
  · simp [downBase, State.setLineUp]
  · rw [downBase, noticed_clearView, noticed_setLineUp, noticed_setLine]
    exact noticed_notify_self _ _ _ _ _

theorem limpSame_downBase (s : State) (c v n : Nat) : LimpSame s (downBase s c v n) := by
  constructor <;> simp [downBase, State.clearView, State.setLineUp, Line.lost]

/-- What entry to LINE_DOWN leaves (R21, R61, R122). -/
theorem enterLineDown_spec (s : State) (c v n : Nat) :
    noticed (s.enterLineDown c v n) ⟨.line, c, v, s.line.roundCount.toNat⟩ ∧
    portKept s (s.enterLineDown c v n) false ∧ (s.enterLineDown c v n).view = View.cleared ∧
    limpEntered s (s.enterLineDown c v n) s.pins.eCut false ∧
    (s.enterLineDown c v n).pole = { s.pole with lowerHeard := false, heldSpeed := 0 } := by
  obtain ⟨hview, hpole, hpins, hregen, hnote⟩ := downBase_frame s c v n
  have hlimp := limpEntered_of_same (limpSame_downBase s c v n) (limpEntered_enterLimp _)
  rw [hregen, hpins] at hlimp
  simp only [enterLineDown_eq]
  refine ⟨noticed_enterLimp (by simp) (by simp) hnote, ?_, by simpa using hview, hlimp,
    by simpa [PoleWatch.clearHeard] using hpole⟩
  rw [portKept_iff]
  simp [downBase, State.setLineUp]

/-- What entry to LINE_DOWN leaves at an edge or a sample that has moved pins and line engine only. -/
theorem enterLineDown_sensed {p : Pins} {l : Line} {t : State}
    (ht : t = ((s.sense p).setLine l).enterLineDown c v n) (hc : l.roundCount = s.line.roundCount) :
    noticed t ⟨.line, c, v, s.line.roundCount.toNat⟩ ∧ portKept s t false ∧ t.view = View.cleared ∧
    limpEntered s t p.eCut false ∧ t.pole = { s.pole with lowerHeard := false, heldSpeed := 0 } := by
  subst ht
  have hsame : LimpSame s (downBase ((s.sense p).setLine l) c v n) := by
    constructor <;> simp [downBase, State.clearView, State.setLineUp, Line.lost, hc, State.sense]
  obtain ⟨hnote, hport, hview, _, hpole⟩ := enterLineDown_spec ((s.sense p).setLine l) c v n
  obtain ⟨_, _, hpins, hregen, _⟩ := downBase_frame ((s.sense p).setLine l) c v n
  have hlimp := limpEntered_of_same hsame (limpEntered_enterLimp _)
  rw [hregen, hpins] at hlimp
  rw [State.setLine_line, hc] at hnote
  exact ⟨hnote, hport, hview, hlimp, hpole⟩

end LineDown

section Faults

variable {i : Instr} {p : Pins} {s : State} {cause run : Nat} {d : Driver} {b mid : Bool}

/-- The line engine at the edge or sample that shows a fault, before the fault. -/
def faultLine (l : Line) (d : Driver) (b mid lift : Bool) : Line :=
  { l with driver := d, pbDrv := b, lastMidHigh := mid, pdLift := lift }

/-- A low mid sample that brings the run to 9 (R19). -/
theorem samplePhase_stuck (hlow : s.pins.pdHigh = false) (hrun : s.line.lowRun = 8)
    (hp : s.line.phase = .frame ∨ s.line.phase = .stop ∨
      (s.line.phase = .resync ∧ s.line.ignoreRun = false)) : s.samplePhase = s.lineFault 2 9 := by
  have hcount : s.countLow = s.lineFault 2 9 := by
    simp [State.countLow, hrun, Config.startBeats, Config.stuckRun]
  rcases hp with hp | hp | ⟨hp, hi⟩
  · simpa [State.samplePhase, hp, State.midFrame, hlow] using hcount
  · simp [State.samplePhase, hp, State.midStop, hlow, State.stopLow, hrun, Config.stuckRun]
  · simpa [State.samplePhase, hp, State.midResync, hlow, hi] using hcount

/-- Every row that detects a fault is the fault at its edge or sample (R18 to R20, log 1). -/
theorem exec_faultRow (h : faultRow i p s cause run d b mid) :
    ∃ lift, exec i s = .next (((s.sense p).setLine (faultLine s.line d b mid lift)).lineFault cause run) := by
  rcases h with ⟨rfl, hd, hp, rfl, rfl, rfl, rfl, rfl⟩ | ⟨⟨hi, hd⟩, hp, hrun, hph, rfl, rfl, rfl, rfl, rfl⟩ |
    ⟨hi, hd, hj, hp, rfl, rfl, rfl, rfl, rfl⟩ | ⟨⟨hi, hd⟩, hdl, hp, rfl, rfl, rfl, rfl, rfl⟩ |
    ⟨hi, hph, hsb, hdrv, hp, rfl, rfl, rfl, rfl, rfl⟩
  · refine ⟨s.line.pdLift, ?_⟩
    have hsame : faultLine s.line .waitRise s.line.pbDrv s.line.lastMidHigh s.line.pdLift = s.line := by
      rw [faultLine, ← hd]
    rw [hsame]
    simp [exec, execPaceBStuckLow, State.onlyIf, Line.sampleDue, hd, hp]
    rfl
  · refine ⟨false, ?_⟩
    have hsample : exec i s = .next (s.sense p).midSample := by
      rcases hi with rfl | rfl
      · exact exec_midSample p hd
      · have hdue : s.line.stuckDue = true := by
          rcases hph with h | h | ⟨h, h'⟩ <;> simp [Line.stuckDue, Line.resyncCounts, *]
        simp [exec, execPaceDStuckLow, State.onlyIf, Line.sampleDue, hd, hp, hdue]
    have hrise : (s.sense p).riseB = (s.sense p).setLine (faultLine s.line .highHalf s.line.pbDrv false false) := by
      simp [State.riseB, State.sense, hp, faultLine]
    rw [hsample, midSample_eq (frameHigh_of_low hp), ← hrise, samplePhase_stuck (s := (s.sense p).riseB) hp hrun hph]
  · refine ⟨s.line.pdLift, ?_⟩
    have hend : exec i s = .next (s.sense p).lowHalfEnd := by
      rcases hi with rfl | rfl
      · simp [exec, execLowHalfExpiry, State.onlyIf, hd]
      · simp [exec, execPressedButHigh, State.onlyIf, hd, hj, hp]
    rw [hend]
    simp [State.lowHalfEnd, State.sense, hj, hp, faultLine]
  · refine ⟨false, ?_⟩
    have hhigh : (s.sense p).frameHigh = true := by simp [State.frameHigh, State.sense, hdl, hp]
    have hsample : exec i s = .next (s.sense p).midSample := by
      rcases hi with rfl | rfl
      · exact exec_midSample p hd
      · simp [exec, execPressedButHigh, State.onlyIf, Line.sampleDue, hd, hhigh]
    rw [hsample, midSample_frameHigh hhigh]
    simp [State.riseB, State.sense, hp, faultLine]
  · refine ⟨s.line.pdLift, ?_⟩
    have hhigh : (s.sense p).pressHigh = true := by
      simp [State.pressHigh, Line.pressBeat, isPress, State.sense, hph, hsb, hdrv, hp]
    have hedge : exec i s = .next (s.sense p).fallingEdge := by
      rcases hi with hrow | ⟨rfl, hdue⟩
      · exact exec_edgeRow hrow
      · simp [exec, execPressedButHigh, State.onlyIf, hdue, hhigh]
    rw [hedge, fallingEdge_pressHigh hhigh]
    simp [State.assertB, faultLine]

end Faults

/-- Settles O17: each row is the fault of its edge or sample, and the fault enters LINE_DOWN or gives up the round. -/
theorem lineFaultEntersLineDown : Obligations.LineFaultEntersLineDown := by
  intro i p s cause run d b mid h l
  obtain ⟨lift, he⟩ := exec_faultRow h
  have hlost : (faultLine s.line d b mid lift).lost run = l := rfl
  refine ⟨fun hj => ⟨_, he, ?_⟩, fun hj => ?_⟩
  · have hjoin : ((s.sense p).setLine (faultLine s.line d b mid lift)).line.join ≠ .lineDown := hj
    rw [lineFault_of_not hjoin]
    generalize ht : ((s.sense p).setLine (faultLine s.line d b mid lift)).enterLineDown cause
      ((s.sense p).setLine (faultLine s.line d b mid lift)).line.discards run = t
    obtain ⟨hnote, hport, hview, hlimp, hpole⟩ := enterLineDown_sensed ht.symm rfl
    refine ⟨?_, hnote, hport, hview, hlimp, hpole, by simp [← ht, State.sense]⟩
    rw [← ht, enterLineDown_line, State.setLine_line, hlost]
  · have hjoin : ((s.sense p).setLine (faultLine s.line d b mid lift)).line.join = .lineDown := hj
    rw [he, lineFault_of_lineDown hjoin]
    rfl

section Discards

variable {i : Instr} {p : Pins} {s : State} {run : Nat}

/-- Every row that shows a discard is the discard at its mid sample (R16). -/
theorem exec_discardRow (hrow : sampleRow i (.roundDiscard p) p s)
    (h : (s.line.phase = .slots ∧ p.pdHigh = false ∧ run = 1) ∨
      (s.line.phase = .stop ∧ p.pdHigh = true ∧ s.line.driveLeft = 0 ∧ s.line.lowRun < 2 ∧ run = 0)) :
    exec i s = .next ((s.sense p).riseB.discard run) := by
  obtain ⟨hi, hd⟩ := hrow
  have hsample : exec i s = .next (s.sense p).midSample := by
    rcases hi with rfl | rfl
    · exact exec_midSample p hd
    · have hdue : s.line.discardDue p.pdHigh = true := by
        rcases h with ⟨hp, hl, _⟩ | ⟨hp, hl, hdl, hr, _⟩
        · simp [Line.discardDue, hp, hl]
        · simp [Line.discardDue, Line.stopRead, hp, hl, hdl, hr]
      simp [exec, execRoundDiscard, State.onlyIf, Line.sampleDue, hd, hdue]
  rw [hsample]
  rcases h with ⟨hp, hl, rfl⟩ | ⟨hp, hl, hdl, hr, rfl⟩
  · rw [midSample_eq (frameHigh_of_low hl)]
    simp [State.samplePhase, State.riseB, State.sense, hp, State.midSlots, hl]
  · rw [midSample_eq (frameHigh_of_still hdl)]
    simp [State.samplePhase, State.riseB, State.sense, hp, State.midStop, hl, hr]

end Discards

/-- Settles O16: the row is the discard of its mid sample; the third one in a row enters LINE_DOWN. -/
theorem discardGivesUpTheRound : Obligations.DiscardGivesUpTheRound := by
  intro i p s run hrow h l
  have he := exec_discardRow hrow h
  have hlost : (s.sense p).riseB.line.lost run = l := rfl
  have hcount : (s.sense p).riseB.line.discards = s.line.discards := rfl
  have hjoin : (s.sense p).riseB.line.join = s.line.join := rfl
  refine ⟨fun hd => ?_, fun hd hj => ?_, fun hd hj => ?_⟩
  · rw [he, State.discard, if_pos (by omega), hlost]
    rfl
  · rw [he, State.discard, if_neg (by omega), if_pos (by rw [hjoin, hj]), hlost]
    rfl
  · rw [State.discard, if_neg (by omega), if_neg (by rwa [hjoin])] at he
    have hrise : (s.sense p).riseB = (s.sense p).setLine
        { s.line with driver := .highHalf, pdLift := false, lastMidHigh := p.pdHigh } := rfl
    rw [hrise] at he hlost
    generalize ht : State.enterLineDown _ 5 3 run = t at he
    obtain ⟨hnote, hport, hview, hlimp, _⟩ := enterLineDown_sensed ht.symm rfl
    exact ⟨t, he, by rw [← ht, enterLineDown_line, hlost], hnote, hport, hview, hlimp⟩

section Clash

variable {s : State}

/-- The station that enters limp at a clash: the line engine moved and the notice queued (R37, R38). -/
def clashBase (s : State) (k : Nat) : State :=
  (s.setLine { s.line with
    pdDrv := false, image := { s.line.image with sends := false }, ownClashed := true, join := .clashed
    backoff := 0 }).notify .line 6 k s.countStamp

theorem enterClashed_eq (s : State) (k : Nat) : s.enterClashed k = (clashBase s k).enterLimp := rfl

theorem limpSame_clashBase (s : State) (k : Nat) : LimpSame s (clashBase s k) := by
  constructor <;> simp [clashBase]

theorem clashBase_frame (s : State) (k : Nat) : (clashBase s k).pins = s.pins ∧
    (clashBase s k).ceil.regenOk = s.ceil.regenOk ∧ noticed (clashBase s k) ⟨.line, 6, k, s.countStamp⟩ :=
  ⟨rfl, rfl, noticed_notify_self _ _ _ _ _⟩

/-- What the entry to CLASHED leaves of the blocks (R37, R38, R122). -/
theorem enterClashed_spec (s : State) (k : Nat) :
    noticed (s.enterClashed k) ⟨.line, 6, k, s.line.roundCount.toNat⟩ ∧
    limpEntered s (s.enterClashed k) s.pins.eCut s.ceil.regenOk := by
  obtain ⟨hpins, hregen, hnote⟩ := clashBase_frame s k
  have hlimp := limpEntered_of_same (limpSame_clashBase s k) (limpEntered_enterLimp _)
  rw [hpins, hregen] at hlimp
  exact ⟨noticed_enterLimp (by simp) (by simp) hnote, hlimp⟩

/-- What the entry to CLASHED leaves at an edge that has moved pins and line engine only. -/
theorem enterClashed_sensed {p : Pins} {l : Line} {t : State} {k : Nat}
    (ht : t = ((s.sense p).setLine l).enterClashed k) (hc : l.roundCount = s.line.roundCount) :
    noticed t ⟨.line, 6, k, s.line.roundCount.toNat⟩ ∧ limpEntered s t p.eCut s.ceil.regenOk ∧
    t.line = { l with
      pdDrv := false, image := { l.image with sends := false }, ownClashed := true, join := .clashed
      backoff := 0 } ∧
    t.view = s.view ∧ t.pole = s.pole ∧ t.scan = s.scan ∧ t.slate = s.slate ∧ t.wakeDet = s.wakeDet ∧
    portKept s t s.port.lineUp ∧ t.straps = s.straps ∧ t.pins = p ∧ t.pending = s.pending := by
  subst ht
  have hsame : LimpSame s (clashBase ((s.sense p).setLine l) k) := by
    constructor <;> simp [clashBase, hc, State.sense]
  obtain ⟨hnote, _⟩ := enterClashed_spec ((s.sense p).setLine l) k
  obtain ⟨hpins, hregen, _⟩ := clashBase_frame ((s.sense p).setLine l) k
  have hlimp := limpEntered_of_same hsame (limpEntered_enterLimp _)
  rw [hregen, hpins] at hlimp
  rw [State.setLine_line, hc] at hnote
  refine ⟨hnote, hlimp, by rw [enterClashed_line, State.setLine_line], ?_⟩
  rw [portKept_iff]
  simp [State.sense]

/-- The end sample of a press beat (R5). -/
theorem endSample_press (h : s.line.pressBeat = true) : s.endSample =
    (s.setLine { s.line with pdLift := s.line.pdDrv }).slotEnd (slotOf s.line.slotBeat) := by
  simp [State.endSample, h]

theorem slotEnd_clash {k : Nat} (h : s.clashAt k (!s.pins.pdHigh) = true) : s.slotEnd k =
    (s.setLine (s.line.readSlot k (!s.pins.pdHigh))).enterClashed (k - (34 + 32 * s.straps.stn.val)) := by
  simp [State.slotEnd, h]

/-- A slot of a band ends no contest (R30). -/
theorem readSlot_of_band {l : Line} {k : Nat} (low : Bool) (h : 34 ≤ k) :
    l.readSlot k low = { l with rx := shiftIn l.rx low } := by
  have hkey : ¬k < 18 := by omega
  have hcount : ¬k < 34 := by omega
  simp [Line.readSlot, inKeyField, inCountField, hkey, hcount]

/-- The end sample of a press beat that shows a clash (R37). -/
theorem endSample_clash (hpress : s.line.pressBeat = true) (hlow : s.pins.pdHigh = false)
    (hdrv : s.line.pdDrv = false) (hband : 34 ≤ slotOf s.line.slotBeat)
    (h : s.clashAt (slotOf s.line.slotBeat) true = true) : s.endSample =
    (s.setLine { s.line with pdLift := false, rx := shiftIn s.line.rx true }).enterClashed
      (slotOf s.line.slotBeat - (34 + 32 * s.straps.stn.val)) := by
  have hclash : (s.setLine { s.line with pdLift := s.line.pdDrv }).clashAt (slotOf s.line.slotBeat)
      (!s.pins.pdHigh) = true := by rw [hlow]; exact h
  rw [endSample_press hpress, slotEnd_clash hclash, readSlot_of_band _ hband, hdrv]
  simp [hlow, State.setLine]

theorem limpEntered_setLine (t : State) (l : Line) (e r : Bool) :
    limpEntered s t e r → limpEntered s (t.setLine l) e r := id

/-- An edge in the slots but the last one, with nothing driven and no recovery beat: the count advances (R6). -/
theorem edgeDrives_in_slots (hp : s.line.phase = .slots) (hsb : s.line.slotBeat < 869)
    (hdl : s.line.driveLeft = 0) (hrb : s.line.recBeat = 0) :
    s.edgeDrives = s.setLine { s.line with pdDrv := false, slotBeat := s.line.slotBeat + 1 } := by
  simp [State.edgeDrives, State.edgeCounts, State.slotAdvance, Line.driveStep, hp, hsb, hdl, Config.lastSlotBeat,
    Line.recoveryStep, hrb, State.startTest, State.mayStart, State.setLine]

end Clash

/-- Settles O18: the edge reads the slot, the clash enters limp, and the rest of the edge moves the slot count only. -/
theorem clashStopsSendingAndEntersLimp : Obligations.ClashStopsSendingAndEntersLimp := by
  intro i p s hrow hph hsb hsend hlo hhi hp hdrv hdl hrb
  have hslot : s.line.slotBeat < 869 := by
    have := s.straps.stn.isLt
    omega
  have hband : inBand s.straps.stn.val (s.line.slotBeat / 3) = true := by simp [inBand, hlo, hhi]
  have hpress : s.line.pressBeat = true := by simp [Line.pressBeat, hph, isPress, hsb]
  have hclash : s.clashAt (s.line.slotBeat / 3) true = true := by simp [State.clashAt, hsend, hband, hdrv]
  have hedge : exec i s = .next (s.sense p).fallingEdge := by
    rcases hrow with hrow | ⟨rfl, hdue⟩
    · exact exec_edgeRow hrow
    · simp [exec, execClash, State.onlyIf, hdue, hpress, slotOf, hp, hclash]
  let l : Line := { s.line with driver := .lowHalf, pbDrv := true, pdLift := false, rx := shiftIn s.line.rx true }
  have hend : (s.sense p).assertB.endSample =
      ((s.sense p).setLine l).enterClashed (s.line.slotBeat / 3 - (34 + 32 * s.straps.stn.val)) :=
    endSample_clash (s := (s.sense p).assertB) hpress hp hdrv (Nat.le_trans (Nat.le_add_right 34 _) hlo) hclash
  rw [fallingEdge_eq (by simp [State.pressHigh, State.sense, hp]), hend] at hedge
  generalize hv : State.enterClashed _ _ = v at hedge
  obtain ⟨hnote, hlimp, hline, hkept⟩ := enterClashed_sensed hv.symm rfl
  rw [edgeDrives_in_slots (by rw [hline]; exact hph) (by rw [hline]; exact hslot) (by rw [hline]; exact hdl)
    (by rw [hline]; exact hrb), hline] at hedge
  exact ⟨_, hedge, rfl, hnote, limpEntered_setLine _ _ _ _ hlimp, hkept⟩

end Sys2Proof.Proofs

/-! # The limp evaluation of a start frame event (R123, R133, R159, R162) -/

namespace Sys2Proof.Proofs

open Sys2Proof.Machine Sys2Proof.Laws

section Restart

variable {s : State} {f : Eight Feeder} {nom : Eight Nat} {k : Fin 8}

theorem nextFeeder_eq_some_iff : nextFeeder f = some k ↔
    (f.get k).st = .waiting ∧ ∀ l, l < k → (f.get l).st ≠ .waiting := by
  simp [nextFeeder, find_allEight_eq_some_iff]

theorem nextFeeder_eq_none_iff : nextFeeder f = none ↔ ∀ k, (f.get k).st ≠ .waiting := by
  simp [nextFeeder, mem_allEight]

theorem sum_ofFn_update {a b : Fin 8 → Nat} (hk : a k = b k + n) (h : ∀ l, l ≠ k → a l = b l) :
    (Eight.ofFn a).sum = (Eight.ofFn b).sum + n := by
  have h0 := h 0; have h1 := h 1; have h2 := h 2; have h3 := h 3
  have h4 := h 4; have h5 := h 5; have h6 := h 6; have h7 := h 7
  fin_cases k <;> simp_all [Eight.ofFn, Eight.sum] <;> omega

/-- A feeder brought to an energized state adds its nominal (R154). -/
theorem energizedSum_on {x : Feeder} (h : (f.get k).st.energized = false) (hx : x.st.energized = true) :
    energizedSum nom (f.set k x) = energizedSum nom f + nom.get k := by
  refine sum_ofFn_update (k := k) ?_ fun l hl => ?_
  · simp [feederLoad, get_set, h, hx]
  · simp [feederLoad, get_set, hl]

theorem limpRestart_of_fits {n : Nat} (ha : s.isAux = true) (hk : nextFeeder s.feed = some k)
    (hf : s.energizedSum + s.port.settings.nominal.get k ≤ s.ownGrant) :
    s.limpRestart n = s.moveFeeder k .on 7 n := by
  simp [State.limpRestart, ha, State.nextFeeder, hk, State.fits, hf]

theorem limpRestart_of_not_fits {n : Nat} (hk : nextFeeder s.feed = some k)
    (hf : s.ownGrant < s.energizedSum + s.port.settings.nominal.get k) : s.limpRestart n = s := by
  simp [State.limpRestart, State.nextFeeder, hk, State.fits, not_le.2 hf]

theorem limpRestart_of_none {n : Nat} (hk : nextFeeder s.feed = none) : s.limpRestart n = s := by
  simp [State.limpRestart, State.nextFeeder, hk]

theorem limpRestart_of_not_aux {n : Nat} (ha : s.isAux = false) : s.limpRestart n = s := if_neg (by simp [ha])

/-- A restart keeps the energized sum within the own grant (R162). -/
theorem limpRestart_sum {n : Nat} (h : s.energizedSum ≤ s.ownGrant) :
    (s.limpRestart n).energizedSum ≤ s.ownGrant := by
  unfold State.limpRestart
  split
  · split
    · rename_i k hk
      split
      · rename_i hfits
        obtain ⟨hwait, _⟩ := nextFeeder_eq_some_iff.1 hk
        have hsum : (s.moveFeeder k .on 7 n).energizedSum = s.energizedSum + s.port.settings.nominal.get k := by
          simp only [State.energizedSum, moveFeeder_frame, moveFeeder_feed]
          exact energizedSum_on (by simp [hwait, FeederState.energized]) rfl
        rw [hsum]
        simpa [State.fits] using hfits
      · exact h
    · exact h
  · exact h

theorem noticed_limpRestart {m : Notice} {n : Nat} (h : noticed s m) : noticed (s.limpRestart n) m := by
  unfold State.limpRestart
  split
  · split
    · exact noticed_ite (noticed_moveFeeder h) h
    · exact h
  · exact h

end Restart

section LimpAct

variable {c : Ceil} {d g step : Nat}

theorem limpAct_of_cut : c.limpAct d g step true = c.cutCase := rfl

/-- The limp rise from 0 (R133). -/
theorem limpAct_of_zero (hc : c.ceiling = 0) (hd : 0 < d) (hg : 0 < g) : c.limpAct d g step false =
    { c with ceiling := min g step, st := .running, cutHeld := false } := by
  simp [Ceil.limpAct, hc, hd, hg]

theorem limpAct_of_rest (hc : c.ceiling = 0) (hz : d = 0 ∨ g = 0) (hs : c.st = .heldZero ∨ c.st = .waiting) :
    c.limpAct d g step false = { c with st := .heldZero, cutHeld := false } := by
  have hzero : ¬(0 < d ∧ 0 < g) := by omega
  rcases hs with hs | hs <;> simp [Ceil.limpAct, hc, hzero, CeilState.moving, hs, Ceil.zeroCase, zeroState]

theorem limpAct_of_fall (hg : 0 < g) (hc : g < c.ceiling) :
    c.limpAct d g step false = { c with ceiling := g, cutHeld := false } := by
  have hpos : c.ceiling ≠ 0 := by omega
  simp [Ceil.limpAct, hpos, hc, Ceil.fallCase, hg.ne']

theorem limpAct_of_fall_zero (hg : g = 0) (hc : 0 < c.ceiling) :
    c.limpAct d g step false = { c with ceiling := 0, st := .heldZero, cutHeld := false } := by
  simp [Ceil.limpAct, hg, hc, Ceil.fallCase, zeroState]

theorem limpAct_of_rise (hc : 0 < c.ceiling) (hg : c.ceiling ≤ g) (hs : c.st = .running) :
    c.limpAct d g step false = { c with ceiling := min g (c.ceiling + step), cutHeld := false } := by
  simp [Ceil.limpAct, hc.ne', not_lt.2 hg, CeilState.moving, hs, Ceil.riseCase]

end LimpAct

section AtStart

variable {s : State}

/-- The ceiling record that the limp evaluation of a start frame event leaves (R133). -/
def limpActed (s : State) : Ceil := s.ceil.limpAct s.port.demand (limpShare s s.feed) s.port.settings.riseStep
  (s.localCut || s.ceil.limpCut)

theorem limpEvaluate_frame' (s : State) : s.limpEvaluate.straps = s.straps ∧ s.limpEvaluate.feed = s.feed ∧
    s.limpEvaluate.ceil = s.ceil ∧ s.limpEvaluate.line = s.line ∧ s.limpEvaluate.arb = s.arb ∧
    s.limpEvaluate.port.settings = s.port.settings ∧ s.limpEvaluate.port.demand = s.port.demand ∧
    s.limpEvaluate.localCut = s.localCut := by
  simp [State.limpEvaluate, State.localCut, State.limpBudget]

theorem limpEvaluate_ownGrant (h : s.budget.limp = true) : s.limpEvaluate.ownGrant = limpShare s s.feed := by
  obtain ⟨hst, _⟩ := limpEvaluate_frame' s
  exact limpSet_ownGrant s _ (limpEvaluate_budget h) hst

/-- The station after the shedding of the limp evaluation (R159). -/
def limpShed (s : State) : State := s.limpEvaluate.ceilingLimp.shedToGrant s.line.roundCount.toNat

theorem limpAtStart_eq (h : s.budget.limp = true) : s.limpAtStart =
    (limpShed s).limpRestart s.line.roundCount.toNat := by
  simp [State.limpAtStart, h, State.feederLimp, State.countStamp, limpShed]

theorem limpAtStart_of_not (h : s.budget.limp = false) : s.limpAtStart = s := by simp [State.limpAtStart, h]

theorem ceilingLimp_eq (h : s.budget.limp = true) (hc : s.hasCeiling = true) : s.limpEvaluate.ceilingLimp =
    s.limpEvaluate.putCeil (limpActed s) s.line.roundCount.toNat := by
  obtain ⟨hst, _, hceil, hline, _, hset, hdem, hcut⟩ := limpEvaluate_frame' s
  rw [State.ceilingLimp, if_pos (by rw [hasCeiling_congr hst, hc]), limpEvaluate_ownGrant h, State.countStamp,
    hceil, hline, hset, hdem, hcut, limpActed]

theorem ceilingLimp_of_not (hc : s.hasCeiling = false) : s.limpEvaluate.ceilingLimp = s.limpEvaluate := by
  obtain ⟨hst, _⟩ := limpEvaluate_frame' s
  exact if_neg (by simp [hasCeiling_congr hst, hc])

theorem noticed_ceilingLimp {m : Notice} (hm : m.kind ≠ .ceiling) (h : noticed s m) : noticed s.ceilingLimp m :=
  noticed_ite (noticed_putCeil hm h) h

/-- The station before the shedding of the limp evaluation. -/
theorem ceilingLimp_frame' (h : s.budget.limp = true) : s.limpEvaluate.ceilingLimp.straps = s.straps ∧
    s.limpEvaluate.ceilingLimp.feed = s.feed ∧
    s.limpEvaluate.ceilingLimp.port.settings = s.port.settings ∧
    s.limpEvaluate.ceilingLimp.ownGrant = limpShare s s.feed := by
  have hown : s.limpEvaluate.ceilingLimp.ownGrant = s.limpEvaluate.ownGrant :=
    ownGrant_congr _ _ (by simp) (by simp)
  simp [hown, limpEvaluate_ownGrant h]

theorem limpAtStart_budget (h : s.budget.limp = true) :
    s.limpAtStart.budget = limpSet s (limpShare s s.feed) := by
  simp [limpAtStart_eq h, limpShed, limpEvaluate_budget h]

theorem limpAtStart_ceil (h : s.budget.limp = true) (hc : s.hasCeiling = true) :
    s.limpAtStart.ceil = limpActed s := by
  rw [limpAtStart_eq h, limpShed, ceilingLimp_eq h hc]
  simp [putCeil_ceil]

theorem limpAtStart_ceil_of_not (hc : s.hasCeiling = false) : s.limpAtStart.ceil = s.ceil := by
  cases h : s.budget.limp
  case false => rw [limpAtStart_of_not h]
  case true =>
    rw [limpAtStart_eq h, limpShed, ceilingLimp_of_not hc]
    simp

theorem limpAtStart_feed_of_not (ha : s.isAux = false) : s.limpAtStart.feed = s.feed := by
  cases h : s.budget.limp
  case false => rw [limpAtStart_of_not h]
  case true =>
    obtain ⟨hst, hfeed, _⟩ := ceilingLimp_frame' h
    rw [limpAtStart_eq h, limpShed, shedToGrant_of_not_aux (by rw [isAux_congr hst, ha]),
      limpRestart_of_not_aux (by rw [isAux_congr hst, ha]), hfeed]

/-- The feeder table once the limp evaluation of a start frame event has shed to its grant (R159). -/
def limpTable (s : State) : Eight Feeder :=
  shedTable s.port.settings.nominal s.feed (limpShare s s.feed) s.line.roundCount.toNat

theorem limpShed_spec (h : s.budget.limp = true) (ha : s.isAux = true) :
    (limpShed s).isAux = true ∧ (limpShed s).ownGrant = limpShare s s.feed ∧
    (limpShed s).energizedSum ≤ limpShare s s.feed ∧ (limpShed s).port.settings = s.port.settings ∧
    (limpShed s).feed = limpTable s := by
  obtain ⟨hst, hfeed, hset, hown⟩ := ceilingLimp_frame' h
  have haux : s.limpEvaluate.ceilingLimp.isAux = true := by rw [isAux_congr hst, ha]
  have hu : (limpShed s).straps = s.straps := by simp [limpShed]
  refine ⟨by rw [isAux_congr hu, ha], ?_, ?_, by simp [limpShed], ?_⟩
  · rw [← hown]
    exact ownGrant_congr _ _ (by simp [limpShed]) (by simp [limpShed])
  · rw [← hown]
    exact shedToGrant_sum _ _ haux
  · rw [limpShed, shedToGrant_feed _ _ haux, hfeed, hset, hown, limpTable]

theorem limpAtStart_sum (h : s.budget.limp = true) (ha : s.isAux = true) :
    s.limpAtStart.energizedSum ≤ limpShare s s.feed := by
  obtain ⟨_, hown, hsum, _⟩ := limpShed_spec h ha
  rw [limpAtStart_eq h, ← hown]
  exact limpRestart_sum (by rw [hown]; exact hsum)

theorem limpAtStart_restarts {k : Fin 8} (h : s.budget.limp = true) (ha : s.isAux = true)
    (hk : nextFeeder (limpTable s) = some k)
    (hf : energizedSum s.port.settings.nominal
        (limpTable s) +
      s.port.settings.nominal.get k ≤ limpShare s s.feed) :
    s.limpAtStart.feed =
      (limpTable s).set k
        { (limpTable s).get k with
          st := .on, stamp := s.line.roundCount.toNat } ∧
      noticed s.limpAtStart ⟨.feeder, k.val, 256 * 7 + 3, s.line.roundCount.toNat⟩ := by
  obtain ⟨haux, hown, _, hset, hfeed⟩ := limpShed_spec h ha
  rw [limpAtStart_eq h, limpRestart_of_fits haux (by rw [hfeed]; exact hk)
    (by rw [State.energizedSum, hfeed, hset, hown]; exact hf)]
  exact ⟨by rw [moveFeeder_feed, hfeed], noticed_notify_self _ _ _ _ _⟩

theorem limpAtStart_feed_of_not_fits {k : Fin 8} (h : s.budget.limp = true) (ha : s.isAux = true)
    (hk : nextFeeder (limpTable s) = some k)
    (hf : limpShare s s.feed < energizedSum s.port.settings.nominal
        (limpTable s) +
      s.port.settings.nominal.get k) :
    s.limpAtStart.feed =
      limpTable s := by
  obtain ⟨_, hown, _, hset, hfeed⟩ := limpShed_spec h ha
  rw [limpAtStart_eq h, limpRestart_of_not_fits (k := k) (by rw [hfeed]; exact hk)
    (by rw [State.energizedSum, hfeed, hset, hown]; exact hf), hfeed]

theorem limpAtStart_feed_of_none (h : s.budget.limp = true) (ha : s.isAux = true)
    (hk : nextFeeder (limpTable s) = none) :
    s.limpAtStart.feed =
      limpTable s := by
  obtain ⟨_, _, _, _, hfeed⟩ := limpShed_spec h ha
  rw [limpAtStart_eq h, limpRestart_of_none (by rw [hfeed]; exact hk), hfeed]

theorem noticed_limpAtStart_grant (h : s.budget.limp = true) (hg : s.ownGrant ≠ limpShare s s.feed) :
    noticed s.limpAtStart ⟨.grant, 1, limpShare s s.feed, s.line.roundCount.toNat⟩ := by
  rw [limpAtStart_eq h]
  exact noticed_limpRestart (noticed_shedToGrant (noticed_ceilingLimp (by simp) (noticed_limpEvaluate hg)))

theorem noticed_limpAtStart_ceiling (h : s.budget.limp = true) (hc : s.hasCeiling = true)
    (hd : s.limpAtStart.ceil.ceiling ≠ s.ceil.ceiling ∨ s.limpAtStart.ceil.st ≠ s.ceil.st) :
    noticed s.limpAtStart
      ⟨.ceiling, s.limpAtStart.ceil.st.code, s.limpAtStart.ceil.ceiling, s.line.roundCount.toNat⟩ := by
  obtain ⟨_, _, hceil, _⟩ := limpEvaluate_frame' s
  rw [limpAtStart_ceil h hc] at hd ⊢
  rw [limpAtStart_eq h, limpShed, ceilingLimp_eq h hc]
  exact noticed_limpRestart (noticed_shedToGrant (noticed_putCeil_self (by rw [hceil]; exact hd)))

theorem noticed_limpAtStart_shed {k : Fin 8} (h : s.budget.limp = true) (ha : s.isAux = true)
    (hk : isShed s.port.settings.nominal s.feed (limpShare s s.feed) k = true) :
    noticed s.limpAtStart ⟨.feeder, k.val, 256 * 4 + 1, s.line.roundCount.toNat⟩ := by
  obtain ⟨hst, hfeed, hset, hown⟩ := ceilingLimp_frame' h
  rw [limpAtStart_eq h]
  exact noticed_limpRestart (noticed_shedToGrant_self (by rw [isAux_congr hst, ha]) (by rw [hfeed, hset, hown, hk]))

end AtStart

end Sys2Proof.Proofs

/-! # The start frame event (R8, R28, R35, R66, R95, R119, R123, R133, R142, R162, R170, R171) -/

namespace Sys2Proof.Proofs

open Sys2Proof.Machine Sys2Proof.Laws

section Base

variable {s : State}

/-- The station at a start frame event after the latch and the owners' own actions, before a limp evaluation. -/
def startBase (s : State) : State :=
  ((s.setLine { s.line with join := s.joinAtStart }).setLine
    ({ s.line with join := s.joinAtStart }.latch
      (s.setLine { s.line with join := s.joinAtStart }).imageNow)).arbLatch.slateStart.poleStart.cutHoldDown

theorem startFrame_eq (s : State) : s.startFrame = (startBase s).limpAtStart.captureB := rfl

theorem startBase_frame (s : State) : (startBase s).straps = s.straps ∧ (startBase s).pins = s.pins ∧
    (startBase s).view = s.view ∧ (startBase s).scan = s.scan ∧ (startBase s).ceil = s.ceil ∧
    (startBase s).feed = s.feed ∧ (startBase s).wakeDet = s.wakeDet ∧ (startBase s).port = s.port ∧
    (startBase s).pending = s.pending ∧ (startBase s).line.roundCount = s.line.roundCount ∧
    (startBase s).budget = { s.budget with cutHold := s.budget.cutHold - 1 } := by
  simp [startBase, State.cutHoldDown, Line.latch]

/-- Rounds waited return to 0 at a latch that finds no candidate (R142); the candidacy is read with the join state of
the event. -/
theorem startBase_arb (s : State) : (startBase s).arb =
    { s.arb with waited := if (s.setLine { s.line with join := s.joinAtStart }).candidate then s.arb.waited
      else 0 } := by
  have hcand : ((s.setLine { s.line with join := s.joinAtStart }).setLine
      ({ s.line with join := s.joinAtStart }.latch
        (s.setLine { s.line with join := s.joinAtStart }).imageNow)).candidate =
      (s.setLine { s.line with join := s.joinAtStart }).candidate := rfl
  have harb : (startBase s).arb = ((s.setLine { s.line with join := s.joinAtStart }).setLine
      ({ s.line with join := s.joinAtStart }.latch
        (s.setLine { s.line with join := s.joinAtStart }).imageNow)).arbLatch.arb := by simp [startBase]
  rw [harb, State.arbLatch, hcand]
  split <;> rfl

theorem startBase_pole (s : State) : (startBase s).pole =
    if s.isPole then { s.pole with
      pos := { s.pole.pos with ackable := s.pole.pos.unacked }
      neg := { s.pole.neg with ackable := s.pole.neg.unacked } } else s.pole := by
  have hrole : ∀ u : State, u.straps = s.straps → u.isPole = s.isPole := fun u h => by
    obtain ⟨_, hp, _⟩ := roles_congr s u h; exact hp
  simp only [startBase, cutHoldDown_frame, State.poleStart]
  rw [hrole _ (by simp)]
  split <;> simp

theorem startBase_slate (s : State) : (startBase s).slate =
    if s.isCab then { s.slate with
      ackPending := s.slate.ackPending && !s.joinAtStart.sending
      rearm := if s.slate.rearm = .disarmed ∧ s.pins.ri0 = false then .releasing else s.slate.rearm }
    else s.slate := by
  have hrole : ∀ u : State, u.straps = s.straps → u.isCab = s.isCab := fun u h => by
    obtain ⟨_, _, _, _, _, hc, _⟩ := roles_congr s u h; exact hc
  simp only [startBase, cutHoldDown_frame, poleStart_frame, State.slateStart]
  rw [hrole _ (by simp)]
  split
  · simp only [State.setSlate_slate, Slate.rearmStart, arbLatch_frame, State.setLine_slate, State.setLine_pins,
      State.setLine_line, Line.latch]
    split <;> rfl
  · simp

theorem startFrame_scan (s : State) : s.startFrame.scan = if s.usesGroupB then s.scan.capture s.pins else s.scan := by
  have hrole : ∀ u : State, u.straps = s.straps → u.usesGroupB = s.usesGroupB := fun u h => by
    obtain ⟨_, _, _, _, _, _, _, _, _, hg⟩ := roles_congr s u h; exact hg
  obtain ⟨hst, hpins, _, hscan, _⟩ := startBase_frame s
  simp only [startFrame_eq, State.captureB]
  rw [hrole _ (by simp [hst])]
  split <;> simp [hpins, hscan]

theorem noticed_setScan (s : State) (x : Scan) (m : Notice) : noticed (s.setScan x) m ↔ noticed s m := Iff.rfl

theorem energizedSum_setScan (s : State) (x : Scan) : (s.setScan x).energizedSum = s.energizedSum := rfl

/-- The capture moves the scanner only. -/
theorem captureB_eq (s : State) : ∃ x, s.captureB = s.setScan x := by
  unfold State.captureB
  split
  · exact ⟨_, rfl⟩
  · exact ⟨s.scan, rfl⟩

/-- The capture of a start frame event (R66). -/
theorem capture_eq (x : Scan) (p : Pins) : x.capture p =
    if x.bRunning then { x with bWaiting := true }
    else match x.conv with
      | some _ => { x with bHeld := some p.an4, bRunning := true }
      | none => { x with conv := some ⟨.an4, p.an4⟩, bHeld := none, bRunning := true } := by
  unfold Scan.capture Scan.choose
  split
  · rfl
  · cases x.conv <;> rfl

end Base

section Row

variable {i : Instr} {p : Pins} {s : State}

theorem countLow_fourth (h : s.line.lowRun = 3) : s.countLow = s.startFrame := by
  simp [State.countLow, h, Config.startBeats]

/-- The mid sample that brings the low run to 4 (R8, R15). -/
theorem samplePhase_fourth (hl : s.pins.pdHigh = false) (hrun : s.line.lowRun = 3)
    (hp : s.line.phase = .frame ∨ (s.line.phase = .resync ∧ s.line.ignoreRun = false)) :
    s.samplePhase = s.startFrame := by
  rw [← countLow_fourth hrun]
  rcases hp with hp | ⟨hp, hg⟩
  · simp [State.samplePhase, hp, State.midFrame, hl]
  · simp [State.samplePhase, hp, State.midResync, hl, hg]

/-- Both rows of the mid sample that brings the low run to 4 answer the start frame event (R8, R15). -/
theorem exec_startFrameRow (hrow : sampleRow i (.startFrameEvent p) p s) (hl : p.pdHigh = false)
    (hrun : s.line.lowRun = 3)
    (hp : s.line.phase = .frame ∨ (s.line.phase = .resync ∧ s.line.ignoreRun = false)) :
    exec i s = .next (s.sense p).riseB.startFrame := by
  obtain ⟨hi, hd⟩ := hrow
  have hsample : exec i s = .next (s.sense p).midSample := by
    rcases hi with rfl | rfl
    · exact exec_midSample p hd
    · have hdue : s.line.startDue = true := by
        rcases hp with hp | ⟨hp, hg⟩
        · simp [Line.startDue, hrun, hp]
        · simp [Line.startDue, hrun, Line.resyncCounts, hp, hg]
      simp [exec, execStartFrameEvent, State.onlyIf, Line.sampleDue, hd, hl, hdue]
  rw [hsample, midSample_eq (frameHigh_of_low hl), samplePhase_fourth (s := (s.sense p).riseB) hl hrun hp]

end Row

section LimpStart

variable {p : Pins} {s : State}

/-- The base of the start frame event at the mid sample with these levels. -/
def limpStart (p : Pins) (s : State) : State := startBase (s.sense p).riseB

theorem limpStart_frame (p : Pins) (s : State) : (limpStart p s).straps = s.straps ∧
    (limpStart p s).ceil = s.ceil ∧ (limpStart p s).feed = s.feed ∧ (limpStart p s).port = s.port ∧
    (limpStart p s).line.roundCount = s.line.roundCount ∧
    (limpStart p s).budget = { s.budget with cutHold := s.budget.cutHold - 1 } ∧
    (limpStart p s).ownGrant = s.ownGrant ∧ (limpStart p s).localCut = (p.eCut || s.budget.ownOverdraw) ∧
    limpShare (limpStart p s) s.feed = limpShare s s.feed := by
  obtain ⟨hst, hpins, _, _, hceil, hfeed, _, hport, _, hcount, hbud⟩ := startBase_frame (s.sense p).riseB
  refine ⟨hst, hceil, hfeed, hport, hcount, hbud, ownGrant_congr _ _ hst (by rw [limpStart, hbud]; rfl), ?_,
    limpShare_congr hst (by rw [limpStart, hport]; rfl) (by rw [limpStart, hport]; rfl)⟩
  rw [limpStart, State.localCut, hpins, hbud]
  rfl

end LimpStart

/-- Settles O12: the limp evaluation of the start frame event, case by case. -/
theorem limpEvaluationAtAStartFrame : Obligations.LimpEvaluationAtAStartFrame := by
  intro i p s hrow hl hrun hp hlimp g n d step cut
  obtain ⟨hst, hceil, hfeed, hport, hcount, hbud, hown, hcut, hshare⟩ := limpStart_frame p s
  have hlimp' : (limpStart p s).budget.limp = true := by rw [hbud]; exact hlimp
  have hg : limpShare (limpStart p s) (limpStart p s).feed = g := by rw [hfeed]; exact hshare
  have hn : (limpStart p s).line.roundCount.toNat = n := by rw [hcount]
  have htable : limpTable (limpStart p s) = shedTable s.port.settings.nominal s.feed g n := by
    rw [limpTable, hg, hn, hport, hfeed]
  have hceiling : (limpStart p s).hasCeiling = s.hasCeiling := hasCeiling_congr hst
  have haux : (limpStart p s).isAux = s.isAux := isAux_congr hst
  have hacted : limpActed (limpStart p s) = s.ceil.limpAct d g step cut := by
    rw [limpActed, hg, hceil, hport, hcut]
  have hnom : (limpStart p s).port.settings.nominal = s.port.settings.nominal := by rw [hport]
  have hrow' := exec_startFrameRow hrow hl hrun hp
  rw [startFrame_eq] at hrow'
  obtain ⟨x, hx⟩ := captureB_eq (limpStart p s).limpAtStart
  refine ⟨_, hrow'.trans (congrArg _ hx), ?_, ?_, fun hne => ?_, fun hc => ?_, fun hc => ?_, fun ha => ?_,
    fun ha => ?_⟩
  · simp [limpAtStart_budget hlimp', hg, limpSet, hbud, hcount, hst, hport]
  · simp [portKept_iff, hport]
  · have hnote := noticed_limpAtStart_grant hlimp' (by rw [hown, hg]; exact hne)
    rw [hg, hn] at hnote
    exact (noticed_setScan _ _ _).2 hnote
  · have ht : (limpStart p s).limpAtStart.ceil = s.ceil.limpAct d g step cut := by
      rw [limpAtStart_ceil hlimp' (by rw [hceiling, hc]), hacted]
    simp only [State.setScan_ceil, ht]
    refine ⟨fun h => by rw [h]; rfl, fun h => by rw [h]; exact limpAct_of_zero,
      fun h hz hdg hs => by rw [h]; exact limpAct_of_rest hz hdg hs, fun h => by rw [h]; exact limpAct_of_fall,
      fun h => by rw [h]; exact limpAct_of_fall_zero, fun h => by rw [h]; exact limpAct_of_rise, fun hne => ?_⟩
    have hnote := noticed_limpAtStart_ceiling hlimp' (by rw [hceiling, hc]) (by rw [ht, hceil]; exact hne)
    rw [ht, hn] at hnote
    exact (noticed_setScan _ _ _).2 hnote
  · rw [State.setScan_ceil, limpAtStart_ceil_of_not (by rw [hceiling, hc]), hceil]
  · have hsum := limpAtStart_sum hlimp' (by rw [haux, ha])
    rw [hg] at hsum
    simp only [energizedSum_setScan, noticed_setScan, State.setScan_feed]
    refine ⟨hsum, fun k hk => ?_, fun k hk hf => ?_, fun k hk hf => ?_, fun hk => ?_⟩
    · have hnote := noticed_limpAtStart_shed (k := k) hlimp' (by rw [haux, ha]) (by rw [hfeed, hnom, hshare, hk])
      rw [hn] at hnote
      exact hnote
    · obtain ⟨hmove, hnote⟩ := limpAtStart_restarts (k := k) hlimp' (by rw [haux, ha])
        (by rw [htable]; exact nextFeeder_eq_some_iff.2 hk) (by rw [htable, hnom, hg]; exact hf)
      rw [htable, hn] at hmove
      rw [hn] at hnote
      exact ⟨hmove, hnote⟩
    · have hstill := limpAtStart_feed_of_not_fits (k := k) hlimp' (by rw [haux, ha])
        (by rw [htable]; exact nextFeeder_eq_some_iff.2 hk) (by rw [htable, hnom, hg]; exact hf)
      rw [htable] at hstill
      exact hstill
    · have hstill := limpAtStart_feed_of_none hlimp' (by rw [haux, ha])
        (by rw [htable]; exact nextFeeder_eq_none_iff.2 hk)
      rw [htable] at hstill
      exact hstill
  · rw [State.setScan_feed, limpAtStart_feed_of_not (by rw [haux, ha]), hfeed]

end Sys2Proof.Proofs

/-! # The latch of the image (R25 to R31, R141, R142) -/

namespace Sys2Proof.Proofs

open Sys2Proof.Machine Sys2Proof.Laws

section Latch

variable {s u v : State}

/-- What the image reads of the line engine is the join state, the round count and the layover read flag. -/
structure ImageSame (u v : State) : Prop where
  rest : v = u.setLine v.line
  join : v.line.join = u.line.join
  count : v.line.roundCount = u.line.roundCount
  layover : v.line.layoverRead = u.line.layoverRead

theorem marksNow_of_same (h : ImageSame u v) : v.marksNow = u.marksNow := by
  obtain ⟨hrest, _, _, hlay⟩ := h
  generalize v.line = l at hrest hlay
  subst hrest
  simp only [State.marksNow, State.holdAsserted, State.setLine_line, hlay]
  rfl

theorem candidate_of_same (h : ImageSame u v) : v.candidate = u.candidate := by
  obtain ⟨hrest, hjoin, _, _⟩ := h
  generalize v.line = l at hrest hjoin
  subst hrest
  simp only [State.candidate, hjoin, State.setLine_line]
  rfl

theorem keyNow_of_same (h : ImageSame u v) : v.keyNow = u.keyNow := by
  have hcand := candidate_of_same h
  obtain ⟨hrest, _, _, _⟩ := h
  simp only [State.keyNow, hcand]
  generalize v.line = l at hrest
  subst hrest
  rfl

theorem bandNow_of_same (h : ImageSame u v) : v.bandNow = u.bandNow := by
  obtain ⟨hrest, _, _, _⟩ := h
  generalize v.line = l at hrest
  subst hrest
  rfl

/-- The image of a station that sends (R28). -/
theorem imageNow_of_sending (h : s.line.join.sending = true) :
    s.imageNow = ⟨true, s.marksNow, s.keyNow, s.line.roundCount, some s.bandNow⟩ := if_pos h

theorem imageNow_of_not_sending (h : s.line.join.sending = false) : s.imageNow = Image.empty := if_neg (by simp [h])

/-- The station whose image is latched at the mid sample with these levels: the join state is that of the event. -/
def latchState (p : Pins) (s : State) : State := { s with
  pins := p, line := { s.line with join := (s.sense p).riseB.joinAtStart } }

theorem imageSame_latchState (p : Pins) (s : State) : ImageSame (latchState p s)
    ((s.sense p).riseB.setLine { (s.sense p).riseB.line with join := (s.sense p).riseB.joinAtStart }) :=
  ⟨rfl, rfl, rfl, rfl⟩

theorem imageNow_latchState (p : Pins) (s : State) :
    ((s.sense p).riseB.setLine
      { (s.sense p).riseB.line with join := (s.sense p).riseB.joinAtStart }).imageNow = (latchState p s).imageNow := by
  have hsame := imageSame_latchState p s
  rw [State.imageNow, State.imageNow, marksNow_of_same hsame, keyNow_of_same hsame, bandNow_of_same hsame,
    hsame.join, hsame.count]

theorem startFrame_sensed_line (p : Pins) (s : State) : (s.sense p).riseB.startFrame.line =
    ({ (s.sense p).riseB.line with join := (s.sense p).riseB.joinAtStart } : Line).latch
      (latchState p s).imageNow := by
  rw [startFrame_line, imageNow_latchState]

end Latch

/-- Settles O11: the latch, and each owner's own action at the event. -/
theorem startFrameEventLatchesTheImage : Obligations.StartFrameEventLatchesTheImage := by
  intro i p s hrow hl hrun hp j u takes
  have hbase := startBase_frame (s.sense p).riseB
  obtain ⟨hst, hpins, hview, hscan, hceil, hfeed, hwake, hport, hpend, _, hbud⟩ := hbase
  have hframe : ∀ w : State, w.limpAtStart.captureB.arb = w.arb ∧ w.limpAtStart.captureB.pole = w.pole ∧
      w.limpAtStart.captureB.slate = w.slate ∧ w.limpAtStart.captureB.view = w.view ∧
      w.limpAtStart.captureB.wakeDet = w.wakeDet ∧ w.limpAtStart.captureB.straps = w.straps ∧
      w.limpAtStart.captureB.pins = w.pins ∧ w.limpAtStart.captureB.pending = w.pending := fun w => by simp
  obtain ⟨harb, hpole, hslate, hview', hwake', hst', hpins', hpend'⟩ := hframe (startBase (s.sense p).riseB)
  refine ⟨_, exec_startFrameRow hrow hl hrun hp, ?_, ?_, ?_, ?_, ?_, fun hn => ?_, ?_, ?_, ?_, ?_, ?_⟩
  · rw [startFrame_sensed_line]
    have hj : (latchState p s).line.join = j := rfl
    have hu : latchState p s = u := rfl
    have hjoin : (s.sense p).riseB.joinAtStart = j := rfl
    rw [hu, hjoin]
    clear_value j
    cases hs : j.sending with
    | true =>
      rw [imageNow_of_sending hs]
      simp [Line.latch, State.riseB, State.sense, takes, hs, hl, Config.startBeats, u]
    | false =>
      rw [imageNow_of_not_sending hs]
      simp [Line.latch, State.riseB, State.sense, takes, hs, hl, Config.startBeats, Image.empty]
  · rw [startFrame_eq, harb, startBase_arb, candidate_of_same (imageSame_latchState p s)]
    rfl
  · rw [startFrame_eq, hpole, startBase_pole]
    rfl
  · rw [startFrame_eq, hslate, startBase_slate]
    rfl
  · have hgroup : (s.sense p).riseB.usesGroupB = s.usesGroupB := rfl
    rw [startFrame_scan, capture_eq, hgroup]
    cases s.usesGroupB <;> rfl
  · have hstay := limpAtStart_of_not (s := startBase (s.sense p).riseB) (by rw [hbud]; exact hn)
    obtain ⟨x, hx⟩ := captureB_eq (startBase (s.sense p).riseB)
    rw [startFrame_eq, hstay, hx]
    simp only [State.setScan_budget, State.setScan_ceil, State.setScan_feed, State.setScan_port]
    exact ⟨hbud, hceil, hfeed, hport⟩
  · rw [startFrame_eq, hview', hview]
    rfl
  · rw [startFrame_eq, hwake', hwake]
    rfl
  · rw [startFrame_eq, hst', hst]
    rfl
  · rw [startFrame_eq, hpins', hpins]
    rfl
  · rw [startFrame_eq, hpend', hpend]
    rfl

end Sys2Proof.Proofs

/-! # The latched band, marks and key (R25 to R27, R31, R141, R142) -/

namespace Sys2Proof.Proofs

open Sys2Proof.Machine Sys2Proof.Laws

section Latched

variable {i : Instr} {p : Pins} {s : State}

/-- A station that sends keeps its join state at the event. -/
theorem latchState_of_sending (h : s.line.join = .joining ∨ s.line.join = .joined) : latchState p s = s.sense p := by
  have hnot : ¬s.line.join = .listen := by rcases h with h | h <;> simp [h]
  have hj : (s.sense p).riseB.joinAtStart = s.line.join := by
    have hline : (s.sense p).riseB.line.join = s.line.join := rfl
    simp [State.joinAtStart, hline, hnot]
  rw [latchState, hj]
  rfl

/-- The image latched by a station JOINING or JOINED, from its owners at the levels of the row (R28). -/
theorem startFrame_image (h : s.line.join = .joining ∨ s.line.join = .joined) :
    (s.sense p).riseB.startFrame.line.image =
      ⟨true, (s.sense p).marksNow, (s.sense p).keyNow, s.line.roundCount, some (s.sense p).bandNow⟩ ∧
    (s.sense p).riseB.startFrame.line.lastBand = some (s.sense p).bandNow := by
  have hs : (s.sense p).line.join.sending = true := by
    have hline : (s.sense p).line.join = s.line.join := rfl
    rw [hline]
    rcases h with h | h <;> simp [h, JoinState.sending]
  rw [startFrame_sensed_line, latchState_of_sending h, imageNow_of_sending hs]
  exact ⟨rfl, rfl⟩

end Latched

section Band

variable (s : State)

theorem bandTier_eq : s.bandTier =
    if s.isDrive then 2 else if s.isStore then 1 else if s.isAux then s.port.settings.tier else 0 := by
  cases h : s.role <;> simp [State.bandTier, h, State.isDrive, State.isStore, State.isAux]

theorem energized_iff (f : FeederState) : f.energized = true ↔ f = .inrush ∨ f = .on := by
  simp [FeederState.energized]

theorem energizedSum_eq : s.energizedSum = (Eight.ofFn (fun k =>
    if (s.feed.get k).st = .inrush ∨ (s.feed.get k).st = .on then s.port.settings.nominal.get k else 0)).sum :=
  sum_ofFn_congr _ _ fun l => by simp [feederLoad, energized_iff]

theorem bothOnWire_iff (w : PoleWatch) : w.bothOnWire = true ↔ w.pos.st = .onWire ∧ w.neg.st = .onWire := by
  simp [PoleWatch.bothOnWire, PoleState.isOnWire]

theorem peerSilent_iff : s.peerSilent = true ↔
    ∃ k, k ≠ s.straps.stn ∧ (s.view.entries.get k).st = .silent := by
  simp [State.peerSilent, mem_allEight]

end Band

/-- Settles O31: each field of the latched band is its owner's. -/
theorem latchedBandFollowsItsOwners : Obligations.LatchedBandFollowsItsOwners := by
  intro i p s hrow hl hrun hp hj x draw next
  obtain ⟨himage, hlast⟩ := startFrame_image (p := p) hj
  refine ⟨_, (s.sense p).bandNow, exec_startFrameRow hrow hl hrun (.inl hp), by rw [himage], hlast, rfl, rfl, rfl,
    ?_, ?_, ?_, rfl, rfl, rfl, rfl, peerSilent_iff (s.sense p)⟩
  · exact congrArg (BitVec.ofNat 2) (bandTier_eq (s.sense p))
  · have hclaim : s.auxClaim = min 1023 (draw + next) :=
      congrArg (fun n => min 1023 (n + next)) (energizedSum_eq s)
    rw [← hclaim]
    rfl
  · have hu : s.poleU = if s.pole.pos.st = .onWire ∧ s.pole.neg.st = .onWire then s.scan.u else 0 := by
      simp [State.poleU, bothOnWire_iff]
    rw [← hu]
    rfl

section Marks

variable {s : State}

theorem anyGap_iff (w : PoleWatch) : w.anyGap = true ↔ w.pos.st.isGap = true ∨ w.neg.st.isGap = true := by
  simp [PoleWatch.anyGap]

theorem isOff_iff (q : PoleState) : q.isOff = true ↔ q ≠ .onWire ∧ q.isGap = false := by
  simp [PoleState.isOff, PoleState.isOnWire]

theorem not_isStore_of_isPole (h : s.isPole = true) : s.isStore = false := by
  simp_all [State.isPole, State.isStore]

theorem regenBar_iff (s : State) : s.regenBar = true ↔
    (s.isPole = true ∧ (s.port.settings.uRegen ≤ s.scan.u ∨
      ¬(s.pole.pos.st = .onWire ∧ s.pole.neg.st = .onWire))) ∨ (s.isStore = true ∧ s.pins.ri0 = true) := by
  cases hp : s.isPole with
  | true => simp [State.regenBar, hp, not_isStore_of_isPole hp, ← bothOnWire_iff]
  | false => simp [State.regenBar, hp]

theorem notReady_iff (s : State) : s.notReady = true ↔
    s.arb.window ≠ none ∨ (s.hasCeiling = true ∧ 0 < s.ceil.ceiling) ∨
      (s.isAux = true ∧ ∃ k, (s.feed.get k).st = .inrush ∨ (s.feed.get k).st = .on) ∨ s.pins.wakeIn = true := by
  simp [State.notReady, Option.isSome_iff_ne_none, mem_allEight, energized_iff, or_assoc]

theorem poleHold_iff (s : State) : s.poleHold = true ↔ s.isPole = true ∧
    ((s.pole.pos.st.isGap = true ∨ s.pole.neg.st.isGap = true) ∨
      ((s.pole.pos.st = .onWire ∧ s.pole.neg.st = .onWire) ∧ s.scan.u < s.port.settings.uFloor)) := by
  simp [State.poleHold, anyGap_iff, bothOnWire_iff]

theorem layoverAsserted_iff (s : State) : s.layoverAsserted = true ↔ s.isCab = true ∧ s.pins.ri2 = true ∧
    ∃ r, s.view.latest = some r ∧ r.offWire = true ∧ r.drop = false := by
  cases h : s.view.latest <;> simp [State.layoverAsserted, h, and_assoc]

/-- The marks that a station sends now, mark by mark (R25). -/
theorem marksNow_iff (s : State) :
    (s.marksNow.drop = true ↔ s.isPole = true ∧ (s.pole.pos.unacked = true ∨ s.pole.neg.unacked = true)) ∧
    (s.marksNow.gap = true ↔ s.isPole = true ∧ (s.pole.pos.st.isGap = true ∨ s.pole.neg.st.isGap = true)) ∧
    (s.marksNow.offWire = true ↔ s.isPole = true ∧
      ((s.pole.pos.st ≠ .onWire ∧ s.pole.pos.st.isGap = false) ∨
        (s.pole.neg.st ≠ .onWire ∧ s.pole.neg.st.isGap = false))) ∧
    (s.marksNow.ack = true ↔ s.isCab = true ∧ s.slate.ackPending = true) ∧
    (s.marksNow.lower = true ↔ s.isCab = true ∧ s.pins.ri1 = true) ∧
    (s.marksNow.cut = true ↔ s.pins.eCut = true ∨ 0 < s.budget.cutHold) ∧
    (s.marksNow.inrush = true ↔ s.arb.window ≠ none) := by
  simp [State.marksNow, anyGap_iff, isOff_iff, State.cutAsserted, Option.isSome_iff_ne_none]

theorem marksNow_hold_iff (s : State) : s.marksNow.hold = true ↔ s.scan.settled = false ∨
    (s.isPole = true ∧ ((s.pole.pos.st.isGap = true ∨ s.pole.neg.st.isGap = true) ∨
      ((s.pole.pos.st = .onWire ∧ s.pole.neg.st = .onWire) ∧ s.scan.u < s.port.settings.uFloor))) ∨
    (s.line.layoverRead = true ∧ (s.arb.window ≠ none ∨ (s.hasCeiling = true ∧ 0 < s.ceil.ceiling) ∨
      (s.isAux = true ∧ ∃ k, (s.feed.get k).st = .inrush ∨ (s.feed.get k).st = .on) ∨ s.pins.wakeIn = true)) := by
  simp only [State.marksNow, State.holdAsserted, Bool.or_eq_true, Bool.and_eq_true, Bool.not_eq_true',
    poleHold_iff, notReady_iff, or_assoc]

end Marks

/-- Settles O32: each latched mark is its owner's. -/
theorem latchedMarksFollowTheirOwners : Obligations.LatchedMarksFollowTheirOwners := by
  intro i p s hrow hl hrun hp hj on gap off busy
  obtain ⟨himage, _⟩ := startFrame_image (p := p) hj
  obtain ⟨hdrop, hgap, hoff, hack, hlower, hcut, hinrush⟩ := marksNow_iff (s.sense p)
  refine ⟨_, exec_startFrameRow hrow hl hrun (.inl hp), ?_⟩
  rw [himage]
  exact ⟨hdrop, hgap, hoff, regenBar_iff (s.sense p), hack, hlower, hcut, marksNow_hold_iff (s.sense p), hinrush,
    layoverAsserted_iff (s.sense p)⟩

section Key

variable {s : State}

theorem fits_iff (s : State) (k : Fin 8) :
    s.fits k = true ↔ s.energizedSum + s.port.settings.nominal.get k ≤ s.ownGrant := by
  simp [State.fits]

/-- The role's own condition of candidacy (R141). -/
theorem candidateRole_iff (s : State) : s.candidateRole = true ↔
    (s.hasCeiling = true ∧ s.ceil.st = .waiting) ∨
      (s.isAux = true ∧ ∃ k, (s.feed.get k).st = .waiting ∧ (∀ l, l < k → (s.feed.get l).st ≠ .waiting) ∧
        s.energizedSum + s.port.settings.nominal.get k ≤ s.ownGrant) := by
  cases hc : s.hasCeiling with
  | true => simp [State.candidateRole, hc, isAux_of_hasCeiling hc]
  | false =>
    cases ha : s.isAux with
    | false => simp [State.candidateRole, hc, ha]
    | true =>
      simp only [State.candidateRole, hc, ha, ← and_assoc, ← nextFeeder_eq_some_iff, ← fits_iff]
      cases hn : nextFeeder s.feed <;> simp [State.nextFeeder, hn]

/-- The candidates among the stations that send (R141). -/
theorem candidate_iff (h : s.line.join.sending = true) : s.candidate = true ↔ s.arb.window = none ∧
    ((s.hasCeiling = true ∧ s.ceil.st = .waiting) ∨
      (s.isAux = true ∧ ∃ k, (s.feed.get k).st = .waiting ∧ (∀ l, l < k → (s.feed.get l).st ≠ .waiting) ∧
        s.energizedSum + s.port.settings.nominal.get k ≤ s.ownGrant)) := by
  simp only [State.candidate, h, Bool.and_eq_true, candidateRole_iff, beq_iff_eq, true_and]

theorem keyTier_of_candidate (h : s.hasCeiling = true ∨ s.isAux = true) : s.keyTier =
    if s.isDrive then 2 else if s.isStore then 1 else s.port.settings.tier := by
  cases hr : s.role <;> simp_all [State.keyTier, State.isDrive, State.isStore, State.isAux, State.hasCeiling]

end Key

/-- Settles O33: the key is the candidate's, and a latch without a candidate clears the rounds waited. -/
theorem latchedKeyIsTheCandidates : Obligations.LatchedKeyIsTheCandidates := by
  intro i p s hrow hl hrun hp hj candidate tier
  obtain ⟨himage, _⟩ := startFrame_image (p := p) hj
  have hs : s.line.join.sending = true := by rcases hj with h | h <;> simp [h, JoinState.sending]
  have hcand : (s.sense p).candidate = true ↔ candidate := candidate_iff (s := s.sense p) hs
  have harb : (s.sense p).riseB.startFrame.arb =
      { s.arb with waited := if (s.sense p).candidate then s.arb.waited else 0 } := by
    have hbase : (s.sense p).riseB.startFrame.arb = (startBase (s.sense p).riseB).arb := by
      rw [startFrame_eq]; simp
    rw [hbase, startBase_arb, candidate_of_same (imageSame_latchState p s), latchState_of_sending hj]
    rfl
  refine ⟨_, exec_startFrameRow hrow hl hrun (.inl hp), fun hc => ?_, fun hc => ?_⟩
  · have htier : (s.sense p).keyTier = tier := keyTier_of_candidate (by
      rcases hc with ⟨_, ⟨h, _⟩ | ⟨h, _⟩⟩
      · exact .inl h
      · exact .inr h)
    rw [himage, harb, if_pos (hcand.2 hc)]
    refine ⟨?_, rfl⟩
    rw [State.keyNow, if_pos (hcand.2 hc), htier]
    rfl
  · have hno : ¬(s.sense p).candidate = true := fun h => hc (hcand.1 h)
    rw [himage, harb, if_neg hno]
    exact ⟨if_neg hno, rfl⟩

end Sys2Proof.Proofs

/-! # Waking (R4, R75, R77, R139, R176, R180 to R182) -/

namespace Sys2Proof.Proofs

open Sys2Proof.Machine Sys2Proof.Laws

section Pass

variable (x : Scan) (p : Pins)

/-- The beginning of a group-A pass touches the conversion, the captured value and the channel due only (R65). -/
theorem startPass_eq : x.startPass p = { x with
    conv := (x.startPass p).conv, bHeld := (x.startPass p).bHeld, aNext := (x.startPass p).aNext } := by
  unfold Scan.startPass
  split
  · rfl
  · rw [choose_eq]

/-- A pass is in progress once it has begun (R65). -/
theorem startPass_running : (x.startPass p).passRunning = true := by
  unfold Scan.startPass
  split
  case isTrue h => exact h
  case isFalse h =>
    unfold Scan.choose
    dsimp only
    split
    · rfl
    · split <;> rfl

end Pass

section Wake

variable (s : State) (own : Bool)

theorem scanWake_scan : s.scanWake.scan = if s.isPole then s.scan.wake.startPass s.pins else s.scan.wake := by
  unfold State.scanWake
  split <;> rfl

/-- The scanner after a wake (R65, R75, R77). -/
theorem wake_scan : (s.wake own).scan = if s.isPole then s.scan.wake.startPass s.pins else s.scan.wake := by
  have hrole : ∀ l w b, (((s.setLine l).setLineUp b).setWakeDet w).isPole = s.isPole := fun _ _ _ => rfl
  simp only [State.wake, slateWake_frame, clearCeil_frame, scanWake_scan, hrole]
  rfl

theorem wake_scan_spec : (s.wake own).scan.settled = false ∧ (s.wake own).scan.settleMs = 0 ∧
    (s.wake own).scan.shoePos = { s.scan.shoePos with run := 0 } ∧
    (s.wake own).scan.shoeNeg = { s.scan.shoeNeg with run := 0 } ∧ (s.wake own).scan.results = s.scan.results ∧
    (s.wake own).scan.angPos = s.scan.angPos ∧ (s.wake own).scan.angNeg = s.scan.angNeg ∧
    (s.isPole = true → (s.wake own).scan.passRunning = true) := by
  rw [wake_scan]
  cases s.isPole with
  | true =>
    simp only [if_true, startPass_running, implies_true, and_true]
    rw [startPass_eq]
    exact ⟨rfl, rfl, rfl, rfl, rfl, rfl, rfl⟩
  | false => exact ⟨rfl, rfl, rfl, rfl, rfl, rfl, rfl, by simp⟩

theorem clearCeil_ceil : s.clearCeil.ceil = if s.hasCeiling then Ceil.clearedAt s.pins.eCut else s.ceil := by
  unfold State.clearCeil
  split <;> rfl

theorem wake_ceil : (s.wake own).ceil = if s.hasCeiling then Ceil.clearedAt s.pins.eCut else s.ceil := by
  have hrole : ∀ l w b, ((((s.setLine l).setLineUp b).setWakeDet w).scanWake).hasCeiling = s.hasCeiling :=
    fun _ _ _ => hasCeiling_congr (by simp)
  simp only [State.wake, slateWake_frame, clearCeil_ceil, hrole]
  simp

theorem wake_wakeDet : (s.wake own).wakeDet = { s.wakeDet with armed := false } := by
  simp [State.wake]

theorem wake_lineUp : (s.wake own).port.lineUp = false := by simp [State.wake, State.setLineUp]

/-- The slate at a wake of a CAB, before SOUNDER follows the slate-full flag (R176). -/
def slateWoken (s : State) : Slate := { s.slate with
  entries := setDelays (some s.port.settings.soundDelay) s.slate.entries, ackPending := false, rearm := .armed }

theorem slateWake_of_not_cab (h : s.isCab = false) : s.slateWake = s := if_neg (by simp [h])

theorem slateWake_of_cab (h : s.isCab = true) : s.slateWake =
    if s.slate.full then (s.setSlate (slateWoken s)).sounderOn s.countStamp else s.setSlate (slateWoken s) := by
  simp [State.slateWake, h, slateWoken, State.countStamp]

theorem sounderOn_slate (n : Nat) : (s.sounderOn n).slate =
    if s.slate.sounder then s.slate
    else { s.slate with sounder := true, onMs := 0, minLeft := startDelay s.port.settings.soundMin } := by
  unfold State.sounderOn
  split <;> simp

theorem noticed_sounderOn_self (n : Nat) (h : s.slate.sounder = false) :
    noticed (s.sounderOn n) ⟨.slate, 7, 0, n⟩ := by
  simp only [State.sounderOn, h]
  exact noticed_notify_self _ _ _ _ _

/-- The station at a wake before its slate (R181). -/
def wakeBase (s : State) (own : Bool) : State :=
  (((s.setLine (s.line.wake s.pins s.port.settings.quietMs own)).setLineUp false).setWakeDet
    { s.wakeDet with armed := false }).scanWake.clearCeil

theorem wake_eq : s.wake own = (wakeBase s own).slateWake := rfl

theorem wakeBase_frame : (wakeBase s own).straps = s.straps ∧ (wakeBase s own).slate = s.slate ∧
    (wakeBase s own).port.settings = s.port.settings ∧ (wakeBase s own).countStamp = 0 := by
  simp [wakeBase, State.countStamp, Line.wake, Line.reset]

theorem isCab_congr {s t : State} (h : t.straps = s.straps) : t.isCab = s.isCab := by
  obtain ⟨_, _, _, _, _, hc, _⟩ := roles_congr s t h
  exact hc

/-- The slate of a CAB after a wake (R172, R176). -/
theorem wake_slate (h : s.isCab = true) : (s.wake own).slate = { s.slate with
    entries := s.slate.entries.map (fun e =>
      if e.st = .raised then { e with delay := some s.port.settings.soundDelay } else e)
    sounder := s.slate.sounder || s.slate.full
    minLeft := if (s.slate.full && !s.slate.sounder) = true then
      (if s.port.settings.soundMin = 0 then none else some s.port.settings.soundMin) else s.slate.minLeft
    onMs := if (s.slate.full && !s.slate.sounder) = true then 0 else s.slate.onMs
    rearm := .armed
    ackPending := false } := by
  obtain ⟨hst, hslate, hset, _⟩ := wakeBase_frame s own
  have hw : slateWoken (wakeBase s own) = slateWoken s := by rw [slateWoken, hslate, hset, slateWoken]
  rw [wake_eq, slateWake_of_cab _ (by rw [isCab_congr hst, h]), hslate, hw]
  cases hf : s.slate.full with
  | false => simp [slateWoken, setDelays, hf]
  | true =>
    have hport : ((wakeBase s own).setSlate (slateWoken s)).port.settings = s.port.settings := hset
    simp only [if_true, sounderOn_slate, State.setSlate_slate, hport]
    cases ho : s.slate.sounder <;> simp [slateWoken, setDelays, startDelay, ho, hf]

theorem wake_slate_of_not_cab (h : s.isCab = false) : (s.wake own).slate = s.slate := by
  obtain ⟨hst, hslate, _⟩ := wakeBase_frame s own
  rw [wake_eq, slateWake_of_not_cab _ (by rw [isCab_congr hst, h]), hslate]

/-- SOUNDER that comes ON at a wake has its notice, stamped 0 with the round count cleared (R172, R176). -/
theorem noticed_wake_sounder (h : s.isCab = true) (hf : s.slate.full = true) (ho : s.slate.sounder = false) :
    noticed (s.wake own) ⟨.slate, 7, 0, 0⟩ := by
  obtain ⟨hst, hslate, _, hcount⟩ := wakeBase_frame s own
  rw [wake_eq, slateWake_of_cab _ (by rw [isCab_congr hst, h]), hslate, hf, hcount]
  exact noticed_sounderOn_self _ 0 (by simp [slateWoken, hslate, ho])

/-- Notices stay through a wake. -/
theorem noticed_wake {m : Notice} (h : noticed s m) : noticed (s.wake own) m := by
  have hbase : noticed (wakeBase s own) m := by
    have hscan : ∀ u : State, noticed u m → noticed u.scanWake m := fun u hu => noticed_ite hu hu
    have hceil : ∀ u : State, noticed u m → noticed u.clearCeil m := fun u hu => noticed_ite hu hu
    exact hceil _ (hscan _ h)
  rw [wake_eq]
  exact noticed_ite (noticed_ite (noticed_sounderOn hbase) hbase) hbase

theorem woken_wake : woken s (s.wake own) s.pins own := by
  refine ⟨wake_line s own, wake_scan_spec s own, wake_wakeDet s own, wake_ceil s own,
    fun hc => ⟨wake_slate s own hc, ?_⟩,
    wake_slate_of_not_cab s own, ?_, ?_⟩
  · intro hon
    simp only [Bool.and_eq_true, Bool.not_eq_true'] at hon
    obtain ⟨hf, ho⟩ := hon
    exact noticed_wake_sounder s own hc hf ho
  · have hport : portKept s (s.wake own) false := by rw [portKept_iff]; simp [wake_lineUp]
    rw [hport]
  · simp

end Wake

section Rows

variable {p : Pins} {s : State}

theorem ownCause_asleep (h : s.line.join = .asleep) : s.ownCause = s.wake true := if_pos h

/-- A wake at the levels of the row, from the state before the row (R181). -/
theorem woken_sensed (own : Bool) : woken s ((s.sense p).wake own) p own := woken_wake (s.sense p) own

end Rows

/-- Settles O30: the own causes and LINE_WAKE wake a sleeping station, and an awake one keeps all but the levels. -/
theorem wakesOfASleepingStation : Obligations.WakesOfASleepingStation := by
  refine ⟨fun p s => ⟨fun hj => ?_, fun hj => ?_⟩, fun p s hj hp => ⟨_, ?_, woken_sensed false⟩⟩
  · have hcause : (s.sense p).ownCause = (s.sense p).wake true := ownCause_asleep hj
    refine ⟨fun hw => ⟨_, ?_, woken_sensed true⟩, fun hc hr => ⟨_, ?_, woken_sensed true⟩, _, ?_,
      woken_wake (s.sense p).commandByte true, ?_⟩
    · simp [exec, execWakeInEdge, State.onlyIf, hw, hcause]
    · simp [exec, execLayoverInEdge, hc, hr, hcause]
    · exact congrArg _ (ownCause_asleep (s := (s.sense p).commandByte) hj)
    · simp [State.commandByte]
  · have hcause : (s.sense p).ownCause = s.sense p := if_neg hj
    have hcommand : (s.sense p).commandByte.ownCause = (s.sense p).commandByte := if_neg hj
    refine ⟨?_, ?_, ?_⟩
    · simp only [exec, execWakeInEdge, State.onlyIf, hcause]
      rfl
    · simp only [exec, execLayoverInEdge, hcause, ite_self]
      rfl
    · simp only [exec, execWakeCommand, hcommand]
      rfl
  · simp [exec, execLineWake, State.onlyIf, hj, hp]

end Sys2Proof.Proofs

/-! # The queue, reset, power-on, expiries and reads (R1, R4, R183 to R192) -/

namespace Sys2Proof.Proofs

open Sys2Proof.Machine Sys2Proof.Laws

section Queue

theorem step_cons {c : Instr} {rest : List Instr} {s : State} (h : s.pending = c :: rest) :
    step s = exec c (s.setPending rest) := by
  rw [step, h]

theorem step_nil {s : State} (h : s.pending = []) : step s = .next s.tick := by rw [step, h]

/-- A running timer, one millisecond on; a stopped one stays stopped. -/
theorem msDown_eq (o : Option Nat) : msDown o = o.map lastMs := by cases o <;> rfl

/-- The settle timer, one millisecond on. -/
theorem scanTick_eq (x : Scan) (awake : Bool) (ms : Nat) : x.tick awake ms = { x with
    settleMs := if awake = true ∧ x.settled = false ∧ x.settleMs + 1 < ms then x.settleMs + 1
      else x.settleMs } := by
  unfold Scan.tick
  by_cases h : awake = true ∧ x.settled = false ∧ x.settleMs + 1 < ms
  · simp [h]
  · rw [if_neg h, if_neg (by simpa [and_assoc] using h)]

/-- A pole record, one millisecond on. -/
theorem poleRecTick_eq (x : PoleRec) (paused : Bool) : x.tick (!paused) =
    if paused then x
    else
      match x.st with
      | .gap g l => { x with st := .gap g (lastMs l) }
      | .rewiring l => { x with st := .rewiring (lastMs l) }
      | _ => x := by
  obtain ⟨st, _, _, _, _⟩ := x
  cases paused
  case false => cases st <;> rfl
  case true => rfl

theorem slateTick_eq (x : Slate) : x.tick = { x with
    entries := x.entries.map (fun e => { e with delay := e.delay.map lastMs })
    minLeft := x.minLeft.map lastMs
    onMs := if x.sounder then min 65535 (x.onMs + 1) else x.onMs } := by
  simp only [Slate.tick, msDown_eq, tickUp]

theorem poleTick_eq (x : PoleWatch) : x.tick = { x with
    pos := x.pos.tick (!x.paused)
    neg := x.neg.tick (!x.paused)
    arcMin := x.arcMin.map lastMs
    arcMs := if x.arcCut then min 65535 (x.arcMs + 1) else x.arcMs } := by
  simp only [PoleWatch.tick, msDown_eq, tickUp]

end Queue

/-- Settles O1: the step's own second case. -/
theorem stepRunsTheFrontCommand : Obligations.StepRunsTheFrontCommand := fun _ _ _ h => step_cons h

/-- Settles O2: the step's own first case, timer by timer. -/
theorem stepOnAnEmptyQueueIsAMillisecond : Obligations.StepOnAnEmptyQueueIsAMillisecond := by
  intro s h
  rw [step_nil h]
  simp only [State.tick, State.setLine, State.setScan, State.setPole, State.setBudget, State.setSlate,
    scanTick_eq, poleTick_eq, poleRecTick_eq, slateTick_eq, Line.tick, Budget.tick, msDown_eq, bne_iff_ne]
  rfl

/-- Settles O4 by evaluation; the eightfold tables position by position. -/
theorem resetLeavesTheInitialValues : Obligations.ResetLeavesTheInitialValues := by
  refine ⟨by decide, by decide, by decide, by decide, by decide, ⟨by decide, rfl⟩, by decide, ?_,
    by decide, by decide, ?_, by decide, by decide, by decide, rfl⟩
  · exact ⟨rfl, get_all 0, rfl, rfl, rfl⟩
  · intro i
    simp [State.reset, get_all]

section PowerOn

/-- The state at the release of RESET before ceiling and group A. -/
def powerBase (st : Straps) (p : Pins) (q : List Instr) : State :=
  { State.reset with
    straps := st, pins := p, pending := q
    line := { Line.reset with driver := driverStart p.pbHigh, beatLong := p.beatLong } }

theorem clearCeil_eq (s : State) :
    s.clearCeil = s.setCeil (if s.hasCeiling then Ceil.clearedAt s.pins.eCut else s.ceil) := by
  unfold State.clearCeil
  split <;> rfl

theorem scanStart_eq (s : State) :
    s.scanStart = s.setScan (if s.isPole then s.scan.startPass s.pins else s.scan) := by
  unfold State.scanStart
  split <;> rfl

theorem powerOnState_eq (st : Straps) (p : Pins) (q : List Instr) :
    powerOnState st p q = (powerBase st p q).clearCeil.scanStart := rfl

end PowerOn

/-- Settles O5: the ceiling is cleared at the level of E_CUT where there is one, and group A starts at a POLE. -/
theorem powerOnReturnsEverythingToInitialValues : Obligations.PowerOnReturnsEverythingToInitialValues := by
  intro st p s
  refine ⟨_, rfl, ?_⟩
  rw [powerOnState_eq, clearCeil_eq, scanStart_eq]
  refine ⟨rfl, rfl, ?_, ?_⟩
  · change (if (powerBase st p s.pending).hasCeiling then _ else _) =
      { Ceil.reset with cutHeld := (powerBase st p s.pending).hasCeiling && p.eCut }
    cases (powerBase st p s.pending).hasCeiling <;> rfl
  · change (if (powerBase st p s.pending).isPole then _ else _) =
      if (powerBase st p s.pending).isPole then _ else _
    cases (powerBase st p s.pending).isPole <;> rfl

section Expiries

/-- A row whose event can occur has its effect (log 1). -/
theorem onlyIf_due {s t : State} {due : Bool} (h : due = true) : s.onlyIf due t = .next t := by
  rw [State.onlyIf, if_pos h]

theorem lowHalfEnd_awake {s : State} (hawake : s.line.join ≠ .asleep) (hlow : s.pins.pbHigh = false) :
    s.lowHalfEnd = s.setLine { s.line with driver := .waitRise, pbDrv := false } := by
  rw [State.lowHalfEnd, if_neg hawake]
  exact if_neg (by simp [hlow])

theorem lowHalfEnd_asleep {s : State} (hasleep : s.line.join = .asleep) :
    s.lowHalfEnd = s.setLine { s.line with driver := .stopped, pbDrv := false } := by
  rw [State.lowHalfEnd, if_pos hasleep]

/-- ARC_CUT once its minimum has expired (R102, R103). -/
theorem arcMin_expired (s : State) (n : Nat) :
    (s.setPole { s.pole with arcMin := none }).releaseArcCut n =
      let frees := s.pole.arcCut && !s.pole.pos.droppedOpen && !s.pole.neg.droppedOpen
      { s with
        pole := { s.pole with arcMin := none, arcCut := s.pole.arcCut && !frees }
        port := if frees then s.port.enqueue ⟨.pole, 33, s.pole.arcMs, n⟩ else s.port } := by
  simp only [State.releaseArcCut, State.setPole_pole, beq_self_eq_true, Bool.and_true]
  split
  case isTrue hfrees =>
    simp only [hfrees, Bool.not_true, Bool.and_false]
    rfl
  case isFalse hkept =>
    simp only [Bool.eq_false_iff.2 hkept, Bool.not_false, Bool.and_true]
    rfl

end Expiries

/-- Settles O37: the condition of each row is given, and its effect is the state written out. -/
theorem timersExpire : Obligations.TimersExpire := by
  intro s
  refine ⟨fun p hdriver => ⟨fun hawake hlow => ?_, fun hasleep => ?_⟩, fun hsettling hawake => ?_,
    fun hkeep => onlyIf_due (Option.isSome_iff_ne_none.2 hkeep),
    fun htrip => onlyIf_due (Option.isSome_iff_ne_none.2 htrip), fun hmin => ?_⟩
  · refine (onlyIf_due (by simp [hdriver])).trans ?_
    rw [lowHalfEnd_awake (s := s.sense p) hawake hlow]
    rfl
  · refine (onlyIf_due (by simp [hdriver])).trans ?_
    rw [lowHalfEnd_asleep (s := s.sense p) hasleep]
    rfl
  · exact onlyIf_due (by simp [hsettling, hawake])
  · refine (onlyIf_due (Option.isSome_iff_ne_none.2 hmin)).trans ?_
    rw [arcMin_expired]
    rfl

section Intake

variable {s : State} {c : ParamCommand} {l : List Byte}

theorem parameterByte_more (b : Byte) (h : s.port.intake = some ⟨c, l⟩) (hlt : l.length + 1 < paramCount c) :
    s.parameterByte b = s.setPort { s.port with cd := false, intake := some ⟨c, l ++ [b]⟩ } := by
  simp [State.parameterByte, h, hlt]

theorem parameterByte_last (b : Byte) (h : s.port.intake = some ⟨c, l⟩) (hle : paramCount c ≤ l.length + 1) :
    s.parameterByte b = s.paramsTaken.runParams c (l ++ [b]) := by
  simp [State.parameterByte, h, not_lt.2 hle]

end Intake

/-- Settles O51: the intake by the number of bytes that its command still needs. -/
theorem intakeCollectsParameters : Obligations.IntakeCollectsParameters := by
  refine fun s => ⟨fun c => rfl, fun code hcode => onlyIf_due (by simpa [commandCodes] using hcode),
    fun b h => ?_, fun b c l h => ⟨fun hlt => ?_, ?_, ?_, ?_, ?_, ?_⟩, fun code p => ⟨rfl, ?_⟩⟩
  · exact congrArg Host.Outcome.next (by rw [State.parameterByte, h]; rfl)
  · exact congrArg Host.Outcome.next (parameterByte_more b h hlt)
  · rintro x y rfl rfl
    exact congrArg Host.Outcome.next (parameterByte_last b h le_rfl)
  · rintro x rfl rfl
    exact congrArg Host.Outcome.next (parameterByte_last b h le_rfl)
  · rintro x rfl rfl
    exact congrArg Host.Outcome.next (parameterByte_last b h le_rfl)
  · rintro rfl rfl
    exact congrArg Host.Outcome.next (parameterByte_last b h le_rfl)
  · rintro x rfl rfl
    exact congrArg Host.Outcome.next (parameterByte_last b h le_rfl)
  · refine ⟨?_, ?_, ?_, ?_, ?_, ?_, ?_, ?_, ?_, ?_,
      fun hcode => commandByteRow_unknown code p hcode⟩ <;> rintro rfl <;> rfl

/-- Settles O52: the eight bits of the byte written, each at its place. -/
theorem statusReadShowsAndClears : Obligations.StatusReadShowsAndClears := by
  intro s
  refine ⟨s.statusByte, rfl, ?_⟩
  have hbits : ∀ a b c d e f g h : Bool,
      let w := BitVec.ofBool a ++ BitVec.ofBool b ++ BitVec.ofBool c ++ BitVec.ofBool d ++ BitVec.ofBool e ++
        BitVec.ofBool f ++ BitVec.ofBool g ++ BitVec.ofBool h
      w.getLsbD 7 = a ∧ w.getLsbD 6 = b ∧ w.getLsbD 5 = c ∧ w.getLsbD 4 = d ∧ w.getLsbD 3 = e ∧
        w.getLsbD 2 = f ∧ w.getLsbD 1 = g ∧ w.getLsbD 0 = h := by decide
  obtain ⟨h7, h6, h5, h4, h3, h2, h1, h0⟩ := hbits (!s.port.queue.isEmpty) s.port.intake.isSome s.port.refused
    s.port.lost s.slateFull s.port.locked s.port.lineUp s.port.cd
  exact ⟨by rw [show s.statusByte.getLsbD 7 = _ from h7]; simp, h6, h5, h4, h3, h2, h1, h0⟩

section Reset

theorem queueOk_reset : queueOk State.reset.port := by unfold queueOk; decide

end Reset

/-- Settles O60: the reset values, block by block. -/
theorem theInvariantsHoldAtReset : Obligations.TheInvariantsHoldAtReset := by
  have hjoin : joinOk State.reset := by unfold joinOk; decide
  have hwindow : windowOk State.reset := fun h => absurd rfl h
  have hsettle : settleOk State.reset := by unfold settleOk; decide
  have hline : lineOk State.reset.line := by
    unfold lineOk countsOk frameOk drivePinsOk Driver.sampled; decide
  have hdraw : drawOk State.reset := by
    refine ⟨hjoin, by unfold ceilOk; decide, fun i => ?_, by decide, by decide, by decide, fun _ i => ?_, by decide⟩
    · rw [show State.reset.feed.get i = _ from get_all _ i]; simp [feederOk]
    · rw [show State.reset.feed.get i = _ from get_all _ i]
  exact ⟨queueOk_reset, by unfold slateOk; decide, settingsOk_default, by unfold grantsOk; decide, hsettle, hline,
    polesOk_reset, hdraw, hjoin, hwindow⟩

end Sys2Proof.Proofs

/-! # Entry to ASLEEP (R61, R104, R125, R139, R149, R164, R176, R179, R180)

What each block is left as, and the notices of the entry. -/

namespace Sys2Proof.Proofs

open Sys2Proof.Machine Sys2Proof.Laws

section Deenergize

variable {s : State} {l : List (Fin 8)} {c n : Nat}

/-- A record de-energized (R160, R164). -/
def turnedOff (n : Nat) (x : Feeder) : Feeder := if x.st.energized then { x with st := .waiting, stamp := n } else x

theorem turnedOff_off (n : Nat) (x : Feeder) : (turnedOff n x).st.energized = false := by
  unfold turnedOff
  split
  · rfl
  · rename_i h; simpa using h

theorem turnedOff_of_off {n : Nat} {x : Feeder} (h : x.st.energized = false) : turnedOff n x = x :=
  if_neg (by simp [h])

theorem turnedOff_turnedOff (n : Nat) (x : Feeder) : turnedOff n (turnedOff n x) = turnedOff n x :=
  turnedOff_of_off (turnedOff_off n x)

/-- De-energizing one record of the list. -/
theorem deenergize_cons_feed (k : Fin 8) :
    ((if (s.feed.get k).st.energized then s.moveFeeder k .waiting c n else s).feed) =
      s.feed.set k (turnedOff n (s.feed.get k)) := by
  unfold turnedOff
  split
  · rw [moveFeeder_feed]
  · refine eight_ext _ _ fun j => ?_
    rw [get_set]
    split
    · rename_i hj; rw [hj]
    · rfl

/-- The records of the list are de-energized, the others kept. -/
theorem deenergize_feed (k : Fin 8) : (State.deenergize l c n s).feed.get k =
    if k ∈ l then turnedOff n (s.feed.get k) else s.feed.get k := by
  induction l generalizing s with
  | nil => simp [State.deenergize]
  | cons j r ih =>
    rw [State.deenergize, ih, deenergize_cons_feed, get_set]
    by_cases hk : k = j
    · subst hk
      simp [turnedOff_turnedOff]
    · simp [hk]

/-- Each record that is de-energized has its FEEDER notice (R163). -/
theorem noticed_deenergize_self {k : Fin 8} (hk : k ∈ l) (he : (s.feed.get k).st.energized = true) :
    noticed (State.deenergize l c n s) ⟨.feeder, k.val, 256 * c + 1, n⟩ := by
  induction l generalizing s with
  | nil => simp at hk
  | cons j r ih =>
    rw [State.deenergize]
    by_cases hkj : k = j
    · subst hkj
      rw [if_pos he]
      exact noticed_deenergize (noticed_notify_self _ _ _ _ _)
    · refine ih (by simpa [hkj] using hk) ?_
      rw [deenergize_cons_feed, get_set, if_neg hkj]
      exact he

theorem feederClear_feed (h : s.isAux = true) (k : Fin 8) :
    s.feederClear.feed.get k = turnedOff s.countStamp (s.feed.get k) := by
  rw [State.feederClear, if_pos h, deenergize_feed, if_pos (List.mem_reverse.2 (mem_allEight k))]

theorem feederClear_of_not_aux (h : s.isAux = false) : s.feederClear = s := if_neg (by simp [h])

theorem noticed_feederClear {m : Notice} (h : noticed s m) : noticed s.feederClear m :=
  noticed_ite (noticed_deenergize h) h

theorem noticed_feederClear_self {k : Fin 8} (h : s.isAux = true) (he : (s.feed.get k).st.energized = true) :
    noticed s.feederClear ⟨.feeder, k.val, 256 * 8 + 1, s.countStamp⟩ := by
  rw [State.feederClear, if_pos h]
  exact noticed_deenergize_self (List.mem_reverse.2 (mem_allEight k)) he

/-- De-energizing takes the window's feeder with it, whether it went back to WAITING before or not. -/
theorem turnedOff_feedBack (s : State) (k : Fin 8) :
    turnedOff s.line.roundCount.toNat ((feedBack s).get k) = turnedOff s.line.roundCount.toNat (s.feed.get k) := by
  unfold feedBack
  split
  · split
    · split
      · rename_i j _ hin
        rw [get_set]
        split
        · rename_i hk
          subst hk
          rw [turnedOff_of_off rfl, turnedOff, if_pos (by rw [hin]; rfl)]
        · rfl
      · rfl
    · rfl
  · rfl

end Deenergize

section Blocks

variable (s : State)

theorem sleepBudget_budget : s.sleepBudget.budget = s.budget.cleared := by
  simp only [State.sleepBudget]
  split <;> simp

theorem sleepCeil_ceil : s.sleepCeil.ceil = s.clearCeil.ceil := by
  unfold State.sleepCeil
  split <;> simp

/-- Grants, ceiling and feeders cleared, the window dropped (R125, R139, R149, R164). -/
def drawCleared : State := s.dropWindow.sleepBudget.sleepCeil.feederClear

theorem drawCleared_frame : (drawCleared s).straps = s.straps ∧ (drawCleared s).pins = s.pins ∧
    (drawCleared s).line = s.line ∧ (drawCleared s).scan = s.scan ∧ (drawCleared s).pole = s.pole ∧
    (drawCleared s).slate = s.slate ∧ (drawCleared s).budget = s.budget.cleared ∧
    (drawCleared s).arb = ⟨0, none, .free⟩ ∧
    (drawCleared s).ceil = (if s.hasCeiling then Ceil.clearedAt s.pins.eCut else s.ceil) := by
  have hhas : s.dropWindow.sleepBudget.hasCeiling = s.hasCeiling := hasCeiling_congr (by simp)
  refine ⟨?_, ?_, ?_, ?_, ?_, ?_, ?_, ?_, ?_⟩
  case refine_7 => simp [drawCleared, sleepBudget_budget]
  case refine_9 =>
    simp only [drawCleared, feederClear_frame, sleepCeil_ceil, clearCeil_ceil, hhas]
    simp
  all_goals simp [drawCleared]

theorem drawCleared_feed (h : s.isAux = true) (k : Fin 8) :
    (drawCleared s).feed.get k = turnedOff s.line.roundCount.toNat (s.feed.get k) := by
  have haux : s.dropWindow.sleepBudget.sleepCeil.isAux = true := by rw [isAux_congr (s := s) (by simp), h]
  have hstamp : s.dropWindow.sleepBudget.sleepCeil.countStamp = s.line.roundCount.toNat := by simp [State.countStamp]
  rw [drawCleared, feederClear_feed haux, hstamp, ← turnedOff_feedBack]
  simp [dropWindow_feed]

theorem drawCleared_feed_of_not (h : s.isAux = false) : (drawCleared s).feed = feedBack s := by
  have haux : s.dropWindow.sleepBudget.sleepCeil.isAux = false := by rw [isAux_congr (s := s) (by simp), h]
  rw [drawCleared, feederClear_of_not_aux haux]
  simp [dropWindow_feed]

/-- Line engine, LINE_UP and wake detector at the entry, the view cleared (R39, R61, R179, R180). -/
def sleepArmed : State :=
  (((drawCleared s).clearView.setLine (drawCleared s).clearView.line.sleep).setLineUp false).armWake

theorem fallAsleep_eq : s.fallAsleep =
    ((sleepArmed s).setScan (sleepArmed s).scan.sleep).sleepPole.slateSleep := rfl

theorem sleepArmed_frame : (sleepArmed s).straps = s.straps ∧ (sleepArmed s).scan = s.scan ∧
    (sleepArmed s).pole = s.pole.clearHeard ∧ (sleepArmed s).slate = s.slate ∧
    (sleepArmed s).budget = s.budget.cleared ∧ (sleepArmed s).arb = ⟨0, none, .free⟩ ∧
    (sleepArmed s).feed = (drawCleared s).feed ∧ (sleepArmed s).view = View.cleared ∧
    (sleepArmed s).ceil = { (drawCleared s).ceil with regenOk := false } ∧
    (sleepArmed s).countStamp = s.line.roundCount.toNat ∧ (sleepArmed s).port.lineUp = false := by
  obtain ⟨hst, -, hline, hscan, hpole, hslate, hbud, harb, -⟩ := drawCleared_frame s
  refine ⟨?_, ?_, ?_, ?_, ?_, ?_, ?_, ?_, ?_, ?_, ?_⟩ <;>
    simp [sleepArmed, State.clearView, State.setLineUp, State.countStamp, Line.sleep, hst, hline, hscan, hpole,
      hslate, hbud, harb]

theorem fallAsleep_arb : s.fallAsleep.arb = ⟨0, none, .free⟩ := by
  simp [fallAsleep_eq, sleepArmed_frame]

theorem fallAsleep_budget : s.fallAsleep.budget = s.budget.cleared := by
  simp [fallAsleep_eq, sleepArmed_frame]

theorem fallAsleep_view : s.fallAsleep.view = View.cleared := by
  simp [fallAsleep_eq, sleepArmed_frame]

theorem fallAsleep_lineUp : s.fallAsleep.port.lineUp = false := by
  simp [fallAsleep_eq, sleepArmed_frame]

theorem fallAsleep_scan : s.fallAsleep.scan = { s.scan with bWaiting := false } := by
  simp [fallAsleep_eq, sleepArmed_frame, Scan.sleep]

theorem fallAsleep_ceil : s.fallAsleep.ceil =
    if s.hasCeiling then Ceil.clearedAt s.pins.eCut else { s.ceil with regenOk := false } := by
  have hceil : s.fallAsleep.ceil = { (drawCleared s).ceil with regenOk := false } := by
    simp [fallAsleep_eq, sleepArmed_frame]
  obtain ⟨-, -, -, -, -, -, -, -, hclear⟩ := drawCleared_frame s
  rw [hceil, hclear]
  split <;> rfl

theorem fallAsleep_feed : s.fallAsleep.feed = (drawCleared s).feed := by
  simp [fallAsleep_eq, sleepArmed_frame]

end Blocks

end Sys2Proof.Proofs

/-! # Station reset (R186) -/

namespace Sys2Proof.Proofs

open Sys2Proof.Machine Sys2Proof.Laws

section Reset

variable (s : State)

/-- The station with line engine and view cleared, before its window is dropped (R6, R61). -/
def resetBase : State := (s.setLine (s.line.stationReset s.port.settings.quietMs)).clearView

/-- The station at a reset, but for the port (R186). -/
def resetUnits : State :=
  ((resetBase s).dropWindow.setBudget (resetBase s).dropWindow.budget.cleared).clearCeil.feederClear.resetPole.slateReset

theorem resetAwake_eq : s.resetAwake = (resetUnits s).setPort (resetUnits s).port.stationReset := rfl

theorem resetBase_frame : (resetBase s).straps = s.straps ∧ (resetBase s).pins = s.pins ∧
    (resetBase s).feed = s.feed ∧ (resetBase s).budget = s.budget ∧ (resetBase s).slate = s.slate ∧
    (resetBase s).pole = s.pole.clearHeard ∧ (resetBase s).ceil = { s.ceil with regenOk := false } ∧
    (resetBase s).arb.window = s.arb.window ∧ (resetBase s).line.roundCount = 0 ∧
    (resetBase s).view = View.cleared := by
  refine ⟨?_, ?_, ?_, ?_, ?_, ?_, ?_, ?_, ?_, ?_⟩ <;>
    simp [resetBase, State.clearView, Line.stationReset, Line.reset]

theorem resetAwake_view : s.resetAwake.view = View.cleared := by
  obtain ⟨-, -, -, -, -, -, -, -, -, hview⟩ := resetBase_frame s
  simp [resetAwake_eq, resetUnits, hview]

theorem resetAwake_arb : s.resetAwake.arb = ⟨0, none, .free⟩ := by
  simp [resetAwake_eq, resetUnits]

theorem resetAwake_budget : s.resetAwake.budget = s.budget.cleared := by
  obtain ⟨-, -, -, hbud, -⟩ := resetBase_frame s
  simp [resetAwake_eq, resetUnits, hbud]

theorem resetAwake_pole : s.resetAwake.pole = s.pole.clearHeard.clearAckable := by
  obtain ⟨-, -, -, -, -, hpole, -⟩ := resetBase_frame s
  simp [resetAwake_eq, resetUnits, State.resetPole, hpole]

theorem resetAwake_slate : s.resetAwake.slate = { s.slate with ackPending := false, rearm := .armed } := by
  obtain ⟨-, -, -, -, hslate, -⟩ := resetBase_frame s
  simp [resetAwake_eq, resetUnits, State.slateReset, hslate]

theorem resetAwake_port : s.resetAwake.port = s.port.stationReset := by
  simp [resetAwake_eq, resetUnits, Port.stationReset, resetBase]

/-- The ceiling record at a station reset (R139). -/
theorem resetAwake_ceil : s.resetAwake.ceil =
    if s.hasCeiling then Ceil.clearedAt s.pins.eCut else { s.ceil with regenOk := false } := by
  obtain ⟨hst, hpins, -, -, -, -, hceil, -⟩ := resetBase_frame s
  have hhas : ∀ b, ((resetBase s).dropWindow.setBudget b).hasCeiling = s.hasCeiling := fun b =>
    hasCeiling_congr (by simp [hst])
  simp [resetAwake_eq, resetUnits, clearCeil_ceil, hhas, hpins, hceil]

/-- The feeder table at a station reset; the round count is 0 by then (R149, R164). -/
theorem resetAwake_feed (h : s.isAux = true) (k : Fin 8) :
    s.resetAwake.feed.get k = turnedOff 0 (s.feed.get k) := by
  obtain ⟨hst, -, hfeed, -, -, -, -, -, hcount, -⟩ := resetBase_frame s
  have haux : ∀ b, ((resetBase s).dropWindow.setBudget b).clearCeil.isAux = true := fun b => by
    rw [isAux_congr (s := s) (by simp [hst]), h]
  have hstamp : ∀ b, ((resetBase s).dropWindow.setBudget b).clearCeil.countStamp =
      (resetBase s).line.roundCount.toNat :=
    fun b => by simp [State.countStamp]
  have hclear : s.resetAwake.feed.get k =
      turnedOff (resetBase s).line.roundCount.toNat ((feedBack (resetBase s)).get k) := by
    simp [resetAwake_eq, resetUnits, State.resetPole, State.slateReset, feederClear_feed (haux _), hstamp,
      dropWindow_feed]
  rw [hclear, turnedOff_feedBack, hfeed, hcount]
  rfl

theorem resetAwake_feed_of_not (h : s.isAux = false) : s.resetAwake.feed = feedBack (resetBase s) := by
  obtain ⟨hst, -⟩ := resetBase_frame s
  have haux : ∀ b, ((resetBase s).dropWindow.setBudget b).clearCeil.isAux = false := fun b => by
    rw [isAux_congr (s := s) (by simp [hst]), h]
  simp [resetAwake_eq, resetUnits, State.resetPole, State.slateReset, feederClear_of_not_aux (haux _), dropWindow_feed]

end Reset

section Sleeping

variable {s t : State}

/-- What a station reset reads of the state before it. -/
structure ResetSame (s t : State) : Prop where
  straps : t.straps = s.straps
  pins : t.pins = s.pins
  pending : t.pending = s.pending
  line : t.line = s.line
  scan : t.scan = s.scan
  wakeDet : t.wakeDet = s.wakeDet
  pole : t.pole = s.pole
  budget : t.budget = s.budget
  slate : t.slate = s.slate
  ceil : t.ceil = s.ceil
  feed : t.feed = s.feed
  window : t.arb.window = s.arb.window
  settings : t.port.settings = s.port.settings
  port : t.port.stationReset = s.port.stationReset

/-- Two states with the same blocks are the same. -/
theorem state_ext (h1 : t.straps = s.straps) (h2 : t.pins = s.pins) (h3 : t.line = s.line) (h4 : t.view = s.view)
    (h5 : t.scan = s.scan) (h6 : t.pole = s.pole) (h7 : t.budget = s.budget) (h8 : t.ceil = s.ceil)
    (h9 : t.arb = s.arb) (h10 : t.feed = s.feed) (h11 : t.slate = s.slate) (h12 : t.wakeDet = s.wakeDet)
    (h13 : t.port = s.port) (h14 : t.pending = s.pending) : t = s := by
  cases s
  cases t
  simp_all

theorem resetAwake_congr (h : ResetSame s t) : t.resetAwake = s.resetAwake := by
  obtain ⟨hst, hpins, hpend, hline, hscan, hwake, hpole, hbud, hslate, hceil, hfeed, hwin, hset, hport⟩ := h
  have hback : feedBack (resetBase t) = feedBack (resetBase s) := by
    obtain ⟨-, -, hft, -, -, -, -, hwt, hct, -⟩ := resetBase_frame t
    obtain ⟨-, -, hfs, -, -, -, -, hws, hcs, -⟩ := resetBase_frame s
    simp only [feedBack, hft, hwt, hct, hfs, hws, hcs, hfeed, hwin]
  refine state_ext ?_ ?_ ?_ ?_ ?_ ?_ ?_ ?_ ?_ ?_ ?_ ?_ ?_ ?_
  · simp [hst]
  · simp [hpins]
  · rw [resetAwake_line, resetAwake_line, hline, hset]
  · rw [resetAwake_view, resetAwake_view]
  · simp [hscan]
  · rw [resetAwake_pole, resetAwake_pole, hpole]
  · rw [resetAwake_budget, resetAwake_budget, hbud]
  · rw [resetAwake_ceil, resetAwake_ceil, hasCeiling_congr hst, hpins, hceil]
  · rw [resetAwake_arb, resetAwake_arb]
  · cases ha : s.isAux with
    | true =>
      refine eight_ext _ _ fun k => ?_
      rw [resetAwake_feed t (by rw [isAux_congr hst, ha]), resetAwake_feed s ha, hfeed]
    | false => rw [resetAwake_feed_of_not t (by rw [isAux_congr hst, ha]), resetAwake_feed_of_not s ha, hback]
  · rw [resetAwake_slate, resetAwake_slate, hslate]
  · simp [hwake]
  · rw [resetAwake_port, resetAwake_port, hport]
  · simp [hpend]

theorem wake_slate_congr (own : Bool) (hst : t.straps = s.straps) (hslate : t.slate = s.slate)
    (hset : t.port.settings = s.port.settings) : (t.wake own).slate = (s.wake own).slate := by
  cases hc : s.isCab with
  | true => rw [wake_slate t own (by rw [isCab_congr hst, hc]), wake_slate s own hc, hslate, hset]
  | false =>
    rw [wake_slate_of_not_cab t own (by rw [isCab_congr hst, hc]), wake_slate_of_not_cab s own hc, hslate]

/-- What a reset reads is the same after a wake. -/
theorem resetSame_wake (own : Bool) (h : ResetSame s t) : ResetSame (s.wake own) (t.wake own) := by
  obtain ⟨hst, hpins, hpend, hline, hscan, hwake, hpole, hbud, hslate, hceil, hfeed, hwin, hset, hport⟩ := h
  have hpole' : t.isPole = s.isPole := by
    obtain ⟨_, hp, _⟩ := roles_congr s t hst
    exact hp
  refine ⟨by simp [hst], by simp [hpins], by simp [hpend], ?_, ?_, ?_, by simp [hpole], by simp [hbud],
    wake_slate_congr own hst hslate hset, ?_, by simp [hfeed], by simp [hwin], by simp [hset], ?_⟩
  · rw [wake_line, wake_line, hline, hpins, hset]
  · rw [wake_scan, wake_scan, hpole', hscan, hpins]
  · rw [wake_wakeDet, wake_wakeDet, hwake]
  · rw [wake_ceil, wake_ceil, hasCeiling_congr hst, hpins, hceil]
  · simp only [Port.stationReset, Port.mk.injEq] at hport ⊢
    simp [hport]

/-- The byte of a command leaves what a reset reads (R185). -/
theorem resetSame_commandByte : ResetSame s s.commandByte := by
  constructor <;> rfl

end Sleeping

section Kept

variable (s : State)

theorem feedBack_enable (k : Fin 8) : ((feedBack s).get k).enable = (s.feed.get k).enable := by
  unfold feedBack
  split
  · split
    · split
      · rw [get_set]
        split
        · rename_i hk; rw [hk]
        · rfl
      · rfl
    · rfl
  · rfl

theorem resetAwake_enable (k : Fin 8) : (s.resetAwake.feed.get k).enable = (s.feed.get k).enable := by
  cases ha : s.isAux with
  | true =>
    rw [resetAwake_feed s ha, turnedOff]
    split <;> rfl
  | false =>
    obtain ⟨-, -, hfeed, -⟩ := resetBase_frame s
    rw [resetAwake_feed_of_not s ha, feedBack_enable, hfeed]

theorem resetAwake_feed_st (ha : s.isAux = true) (k : Fin 8) : (s.resetAwake.feed.get k).st =
    if (s.feed.get k).st.energized then .waiting else (s.feed.get k).st := by
  rw [resetAwake_feed s ha, turnedOff, apply_ite Feeder.st]

end Kept

/-- Settles O6: the blocks of a reset one by one; the reset of a sleeping station wakes it first. -/
theorem stationResetKeepsAndClears : Obligations.StationResetKeepsAndClears := by
  refine ⟨fun p s hawake => ⟨(s.sense p).resetAwake, ?_, ?_⟩, fun p s hasleep => ?_⟩
  · exact congrArg (fun u : State => Host.Outcome.next u.resetAwake) (if_neg hawake)
  · generalize hu : s.sense p = u
    have hsame : u.straps = s.straps ∧ u.pins = p ∧ u.line = s.line ∧ u.scan = s.scan ∧ u.wakeDet = s.wakeDet ∧
        u.pole = s.pole ∧ u.budget = s.budget ∧ u.feed = s.feed ∧ u.slate = s.slate ∧ u.port = s.port ∧
        u.pending = s.pending ∧ u.hasCeiling = s.hasCeiling ∧ u.isAux = s.isAux := by
      rw [← hu]; exact ⟨rfl, rfl, rfl, rfl, rfl, rfl, rfl, rfl, rfl, rfl, rfl, rfl, rfl⟩
    obtain ⟨hst, hpins, hline, hscan, hdet, hpole, hbud, hfeed, hslate, hport, hpend, hhas, haux⟩ := hsame
    refine ⟨?_, resetAwake_view u, resetAwake_arb u, ?_, ?_, ?_, ?_, fun hh => ?_, fun i => ?_, fun ha i => ?_, ?_,
      ?_, ?_, ?_, ?_⟩
    · rw [resetAwake_line, hline, hport]; rfl
    · simp [hscan]
    · simp [hdet]
    · rw [resetAwake_pole, hpole]; rfl
    · rw [resetAwake_budget, hbud]
      simp [Budget.cleared, get_all]
    · rw [resetAwake_ceil, hhas, hh, hpins]; rfl
    · rw [resetAwake_enable, hfeed]
    · rw [resetAwake_feed_st u (haux.trans ha), hfeed]
    · rw [resetAwake_slate, hslate]
    · rw [resetAwake_port, hport]; rfl
    · simp [hst]
    · simp [hpins]
    · simp [hpend]
  · have hcommand : exec (.wakeCommand p) s = .next ((s.sense p).commandByte.wake true) :=
      congrArg _ (ownCause_asleep (s := (s.sense p).commandByte) hasleep)
    have hreset : exec (.stationReset p) s = .next ((s.sense p).wake true).resetAwake :=
      congrArg (fun u : State => Host.Outcome.next u.resetAwake) (ownCause_asleep (s := s.sense p) hasleep)
    generalize hv : (s.sense p).commandByte.wake true = v at hcommand
    have hawake : v.line.join = .listen := by rw [← hv, wake_line]; rfl
    refine ⟨_, v, hcommand, by simp [hawake], ?_, hreset⟩
    have hsense : v.sense p = v := by
      have hpins : v.pins = p := by
        obtain ⟨-, hkept, -⟩ := wake_frame (s.sense p).commandByte true
        rw [← hv, hkept]
        rfl
      rw [← hpins]; rfl
    have hstill : exec (.stationReset p) v = .next v.resetAwake := by
      have hown : v.ownCause = v := if_neg (by simp [hawake])
      simp only [exec, execStationReset, State.stationReset, hsense, hown]
    rw [hstill, ← hv, resetAwake_congr (resetSame_wake true resetSame_commandByte)]

end Sys2Proof.Proofs

/-! # FEEDER_MASK, DEMAND and ROLE_VALUE (R132, R138, R148, R155) -/

namespace Sys2Proof.Proofs

open Sys2Proof.Machine Sys2Proof.Laws

section Mask

variable {s : State} {mask : Byte} {l : List (Fin 8)} {m : Notice}

/-- A record at a FEEDER_MASK with this bit (R155). -/
def masked (en : Bool) (n : Nat) (x : Feeder) : Feeder :=
  if x.enable = en then x else ⟨en, if en then .waiting else .off, n⟩

theorem masked_masked (en : Bool) (n : Nat) (x : Feeder) : masked en n (masked en n x) = masked en n x := by
  unfold masked
  split
  · rfl
  · rw [if_pos rfl]

theorem maskOne_feed (s : State) (i k : Fin 8) (en : Bool) : (s.maskOne i en).feed.get k =
    if k = i then masked en s.line.roundCount.toNat (s.feed.get k) else s.feed.get k := by
  unfold State.maskOne masked
  by_cases hk : k = i
  · subst hk
    rw [if_pos rfl]
    split
    · rfl
    · simp only [moveFeeder_feed, State.setFeed_feed, get_set, if_true, State.countStamp]
  · rw [if_neg hk]
    split
    · rfl
    · simp only [moveFeeder_feed, State.setFeed_feed, get_set, if_neg hk]

/-- The records after a mask (R155). -/
theorem maskAll_feed (k : Fin 8) : (State.maskAll l mask s).feed.get k =
    if k ∈ l then masked (mask.getLsbD k.val) s.line.roundCount.toNat (s.feed.get k) else s.feed.get k := by
  induction l generalizing s with
  | nil => simp [State.maskAll]
  | cons j r ih =>
    have hline : (s.maskOne j (mask.getLsbD j.val)).line = s.line := by simp
    rw [State.maskAll, ih, hline, maskOne_feed]
    by_cases hk : k = j
    · subst hk
      simp [masked_masked]
    · simp [hk]

theorem noticed_maskOne {i : Fin 8} {en : Bool} (h : noticed s m) : noticed (s.maskOne i en) m :=
  noticed_ite h (noticed_moveFeeder h)

theorem noticed_maskAll (h : noticed s m) : noticed (State.maskAll l mask s) m := by
  induction l generalizing s with
  | nil => exact h
  | cons j r ih => exact ih (noticed_maskOne h)

/-- Each record that moves has its FEEDER notice (R163). -/
theorem noticed_maskAll_self {k : Fin 8} (hk : k ∈ l) (he : (s.feed.get k).enable ≠ mask.getLsbD k.val) :
    noticed (State.maskAll l mask s)
      ⟨.feeder, k.val, if mask.getLsbD k.val then 1 else 0, s.line.roundCount.toNat⟩ := by
  induction l generalizing s with
  | nil => simp at hk
  | cons j r ih =>
    have hline : (s.maskOne j (mask.getLsbD j.val)).line = s.line := by simp
    rw [State.maskAll]
    by_cases hkj : k = j
    · subst hkj
      refine noticed_maskAll ?_
      rw [State.maskOne, if_neg he]
      cases mask.getLsbD k.val <;> exact noticed_notify_self _ _ _ _ _
    · rw [← hline]
      refine ih (by simpa [hkj] using hk) ?_
      rw [maskOne_feed, if_neg hkj]
      exact he

theorem disabledBy_iff {a : Arbiter} : a.disabledBy mask = true ↔
    ∃ w k, a.window = some w ∧ w.feeder = some k ∧ mask.getLsbD k.val = false := by
  unfold Arbiter.disabledBy
  split
  · rename_i w hw
    split
    · rename_i i hi
      simp [hw, hi]
    · rename_i hi
      simp [hw, hi]
  · rename_i hw
    simp [hw]

theorem endByDisable_eq {w : Window} (h : s.arb.window = some w) : s.endByDisable =
    (s.setArb { s.arb with window := none, holder := .free }).notify .window 4
      (256 * (w.len - w.left) + 9) s.line.roundCount.toNat := by
  rw [State.endByDisable, h]
  rfl

/-- The mask leaves the line engine. -/
theorem maskAll_line : (State.maskAll l mask s).line = s.line := by simp

theorem feederMaskCmd_of_not_aux (h : s.isAux = false) : s.feederMaskCmd mask = s.refuse := if_neg (by simp [h])

theorem feederMaskCmd_of_disabled (h : s.isAux = true) (hd : s.arb.disabledBy mask = true) :
    s.feederMaskCmd mask = (State.maskAll allEight mask s).endByDisable := by
  simp [State.feederMaskCmd, h, hd]

theorem feederMaskCmd_of_kept (h : s.isAux = true) (hd : s.arb.disabledBy mask = false) :
    s.feederMaskCmd mask = State.maskAll allEight mask s := by
  simp [State.feederMaskCmd, h, hd]

theorem feederMaskCmd_feed (h : s.isAux = true) (k : Fin 8) : (s.feederMaskCmd mask).feed.get k =
    masked (mask.getLsbD k.val) s.line.roundCount.toNat (s.feed.get k) := by
  have hall : (State.maskAll allEight mask s).feed.get k =
      masked (mask.getLsbD k.val) s.line.roundCount.toNat (s.feed.get k) := by
    rw [maskAll_feed, if_pos (mem_allEight k)]
  cases hd : s.arb.disabledBy mask with
  | false => rw [feederMaskCmd_of_kept h hd, hall]
  | true =>
    rw [feederMaskCmd_of_disabled h hd, ← hall]
    unfold State.endByDisable
    split <;> simp

theorem feederMaskCmd_arb (h : s.isAux = true) : (s.feederMaskCmd mask).arb =
    if s.arb.disabledBy mask then { s.arb with window := none, holder := .free } else s.arb := by
  cases hd : s.arb.disabledBy mask with
  | false => simp [feederMaskCmd_of_kept h hd]
  | true =>
    obtain ⟨w, k, hw, -, -⟩ := disabledBy_iff.1 hd
    rw [feederMaskCmd_of_disabled h hd, endByDisable_eq (w := w) (by simpa using hw)]
    simp

theorem feederMaskCmd_of_aux (h : s.isAux = true) : s.feederMaskCmd mask =
    if s.arb.disabledBy mask then (State.maskAll allEight mask s).endByDisable else State.maskAll allEight mask s := by
  cases hd : s.arb.disabledBy mask with
  | false => rw [feederMaskCmd_of_kept h hd, if_neg (by simp)]
  | true => rw [feederMaskCmd_of_disabled h hd, if_pos rfl]

theorem portKept_feederMaskCmd (h : s.isAux = true) : portKept s (s.feederMaskCmd mask) s.port.lineUp := by
  have hend : ∀ u : State, portKept u u.endByDisable u.port.lineUp := fun u => by
    unfold State.endByDisable
    rw [portKept_iff]
    split <;> simp
  have hall : portKept s (State.maskAll allEight mask s) s.port.lineUp := by rw [portKept_iff]; simp
  rw [feederMaskCmd_of_aux h]
  split
  · have hkept := hend (State.maskAll allEight mask s)
    rw [portKept_iff] at hkept ⊢
    simpa only [maskAll_frame] using hkept
  · exact hall

theorem noticed_feederMaskCmd_of_maskAll (h : s.isAux = true) (hn : noticed (State.maskAll allEight mask s) m) :
    noticed (s.feederMaskCmd mask) m := by
  cases hd : s.arb.disabledBy mask with
  | false => rw [feederMaskCmd_of_kept h hd]; exact hn
  | true =>
    obtain ⟨w, k, hw, -, -⟩ := disabledBy_iff.1 hd
    rw [feederMaskCmd_of_disabled h hd, endByDisable_eq (w := w) (by simpa using hw)]
    exact noticed_notify (.inl rfl) hn

end Mask

/-- Settles O46: the records one by one, then the window. -/
theorem feederMaskMovesRecords : Obligations.FeederMaskMovesRecords := by
  intro mask s
  refine ⟨fun ha => congrArg Host.Outcome.next (feederMaskCmd_of_not_aux ha), fun ha =>
    ⟨s.paramsTaken.feederMaskCmd mask, rfl, ?_⟩⟩
  have haux : s.paramsTaken.isAux = true := ha
  generalize hu : s.paramsTaken = u at haux
  have hsame : u.line = s.line ∧ u.arb = s.arb ∧ u.feed = s.feed := by rw [← hu]; exact ⟨rfl, rfl, rfl⟩
  obtain ⟨hline, harb, hfeed⟩ := hsame
  refine ⟨?_, ?_, fun k => ?_, fun k hk => ?_, fun w k hw hf hm => ⟨?_, ?_⟩, fun hno => ?_⟩
  · refine state_ext ?_ ?_ ?_ ?_ ?_ ?_ ?_ ?_ rfl rfl ?_ ?_ rfl ?_ <;> simp [← hu, State.paramsTaken]
  · have hport := portKept_feederMaskCmd (mask := mask) haux
    rw [← hu] at hport ⊢
    exact hport
  · rw [feederMaskCmd_feed haux, hline, hfeed]
    rfl
  · rw [← hline]
    exact noticed_feederMaskCmd_of_maskAll haux (noticed_maskAll_self (mem_allEight k) (by rw [hfeed]; exact hk))
  · rw [feederMaskCmd_arb haux, harb, if_pos (disabledBy_iff.2 ⟨w, k, hw, hf, hm⟩)]
  · rw [feederMaskCmd_of_disabled haux (by rw [harb]; exact disabledBy_iff.2 ⟨w, k, hw, hf, hm⟩),
      endByDisable_eq (w := w) (by simpa [harb] using hw), maskAll_line, hline]
    exact noticed_notify_self _ _ _ _ _
  · rw [feederMaskCmd_arb haux, harb, if_neg]
    rw [disabledBy_iff]
    rintro ⟨w, k, hw, hf, hm⟩
    exact Bool.false_ne_true (hm.symm.trans (hno w k hw hf))

section Demand

variable {s : State}

/-- A DEMAND that moves no record replaces the value only (R132). -/
theorem putCeil_same {c : Ceil} {n : Nat} (h : c = s.ceil) : s.putCeil c n = s := by
  rw [State.putCeil, h, if_pos ⟨rfl, rfl⟩]
  rfl

theorem putCeil_moved {c : Ceil} {n : Nat} (h : c.st ≠ s.ceil.st) :
    s.putCeil c n = (s.setCeil c).notify .ceiling c.st.code c.ceiling n := if_neg fun hc => h hc.2

theorem demandMove_stops {c : Ceil} {d g : Nat} (hs : c.st = .waiting) (hd : d = 0) :
    c.demandMove d g = { c with st := .heldZero } := if_pos ⟨hs, hd⟩

theorem demandMove_waits {c : Ceil} {d g : Nat} (h : c.st = .heldZero ∧ c.cutHeld = false ∧ 0 < d ∧ 0 < g) :
    c.demandMove d g = { c with st := .waiting } := by
  rw [Ceil.demandMove, if_neg (by simp [h.1]), if_pos h]

theorem demandMove_stays {c : Ceil} {d g : Nat} (hs : ¬(c.st = .waiting ∧ d = 0))
    (hw : ¬(c.st = .heldZero ∧ c.cutHeld = false ∧ 0 < d ∧ 0 < g)) : c.demandMove d g = c := by
  rw [Ceil.demandMove, if_neg hs, if_neg hw]

/-- The port with a DEMAND taken (R138). -/
def demandTaken (v : BitVec 16) (s : State) : State :=
  s.paramsTaken.setPort { s.paramsTaken.port with demand := clampValue v }

theorem exec_demand (v : BitVec 16) (h : s.hasCeiling = true) : exec (.demand v) s =
    .next ((demandTaken v s).putCeil (s.ceil.demandMove (clampValue v) s.ownGrant) s.line.roundCount.toNat) :=
  congrArg Host.Outcome.next (if_pos h)

theorem exec_demand_refused (v : BitVec 16) (h : s.hasCeiling = false) :
    exec (.demand v) s = .next s.paramsTaken.refuse :=
  congrArg Host.Outcome.next (if_neg (Bool.eq_false_iff.1 h))

theorem exec_roleValue (v : BitVec 16) (h : s.hasCeiling = true) : exec (.roleValue v) s =
    .next (s.paramsTaken.setPort { s.paramsTaken.port with roleValue := clampValue v }) :=
  congrArg Host.Outcome.next (if_pos h)

theorem exec_roleValue_refused (v : BitVec 16) (h : s.hasCeiling = false) :
    exec (.roleValue v) s = .next s.paramsTaken.refuse :=
  congrArg Host.Outcome.next (if_neg (Bool.eq_false_iff.1 h))

end Demand

/-- Settles O45: a record that is to stop, one that is to wait, and one that stays. -/
theorem demandAndRoleValue : Obligations.DemandAndRoleValue := by
  intro value s
  refine ⟨fun hh => ⟨exec_demand_refused value hh, exec_roleValue_refused value hh⟩, fun hh =>
    ⟨exec_roleValue value hh, fun hs => ?_, fun hw => ?_, fun hs hw => ?_⟩⟩
  · obtain ⟨hwait, hzero⟩ := hs
    rw [exec_demand value hh, demandMove_stops (d := clampValue value) hwait hzero, putCeil_moved]
    · rfl
    · exact fun hc => by rw [show (demandTaken value s).ceil = s.ceil from rfl, hwait] at hc; cases hc
  · rw [exec_demand value hh, demandMove_waits (d := clampValue value) hw, putCeil_moved]
    · rfl
    · exact fun hc => by rw [show (demandTaken value s).ceil = s.ceil from rfl, hw.1] at hc; cases hc
  · rw [exec_demand value hh, demandMove_stays (d := clampValue value) hs hw,
      putCeil_same (s := demandTaken value s) (c := s.ceil) rfl]
    rfl

end Sys2Proof.Proofs

/-! # The draw against the grant, move by move (R126 to R129, R154, R158, R159)

Every calm move keeps ceiling, feeders and window in order and the draw within the own grant. -/

namespace Sys2Proof.Proofs

open Sys2Proof.Machine Sys2Proof.Laws

section Records

variable {s t : State} {a a' : Arbiter} {f : Eight Feeder} {c c' : Ceil}

theorem joinOk_congr (hj : t.line.join = s.line.join) (hl : t.budget.limp = s.budget.limp)
    (hw : t.arb.window = s.arb.window) (h : joinOk s) : joinOk t := by
  simp only [joinOk, hj, hl, hw] at h ⊢
  exact h

/-- The ceiling record's promise reads no more of the arbiter than whether a window is held. -/
theorem ceilOk_congr (hw : a.window ≠ none → a'.window ≠ none) (hst : c'.st = c.st)
    (hc : c'.ceiling = c.ceiling) (hcut : c'.cutHeld = c.cutHeld) (h : ceilOk a c) : ceilOk a' c' := by
  obtain ⟨hzero, hwait, hrun, hheld, hramp⟩ := h
  rw [ceilOk, hst, hc, hcut]
  exact ⟨hzero, hwait, hrun, hheld, fun hr => hw (hramp hr)⟩

theorem ceilOk_of_heldZero (hst : c.st = .heldZero) (hc : c.ceiling = 0) : ceilOk a c := by
  simp [ceilOk, hst, hc]

theorem feedOk_congr (hw : a'.window = a.window) (h : feedOk a f) : feedOk a' f := by
  simp only [feedOk, feederOk, hw]
  exact h

/-- With no feeder energized the records are in order against any window. -/
theorem feedOk_of_not_energized (h : feedOk a f) (hoff : ∀ i, (f.get i).st.energized = false) : feedOk a' f := by
  intro i
  refine ⟨(h i).1, fun hin => ?_⟩
  have := hoff i
  simp [hin, FeederState.energized] at this

/-- With no window held no feeder is in INRUSH, so that the records are in order against any window. -/
theorem feedOk_of_no_window (hw : a.window = none) (h : feedOk a f) : feedOk a' f := by
  intro i
  refine ⟨(h i).1, fun hin => ?_⟩
  obtain ⟨w, hw', -⟩ := (h i).2 hin
  simp [hw] at hw'

theorem energizedSum_off (hoff : ∀ i, (s.feed.get i).st.energized = false) : s.energizedSum = 0 :=
  energizedSum_zero _ _ hoff

theorem energizedSum_congr (hf : t.feed = s.feed) (he : t.port.settings.nominal = s.port.settings.nominal) :
    t.energizedSum = s.energizedSum := by
  simp only [State.energizedSum, hf, he]

/-- The draw of a station with the same straps is in order when its own unit's records are. -/
theorem drawOk_of_units (h : drawOk s) (hst : t.straps = s.straps) (hj : joinOk t)
    (hceil : s.hasCeiling = true → ceilOk t.arb t.ceil ∧ t.ceil.ceiling ≤ t.ownGrant)
    (hnoceil : s.hasCeiling = false → t.ceil.st = s.ceil.st ∧ t.ceil.ceiling = s.ceil.ceiling)
    (hfeed : s.isAux = true → feedOk t.arb t.feed ∧ t.energizedSum ≤ t.ownGrant)
    (hnofeed : s.isAux = false → t.feed = s.feed)
    (hwin : s.contends = false → t.arb.window = none) : drawOk t := by
  obtain ⟨-, hc, hf, -, -, hheld, hoff, -⟩ := h
  have hempty : s.isAux = false → feedOk t.arb t.feed := fun ha => by
    rw [hnofeed ha]
    exact feedOk_of_not_energized hf fun i => by simp [hoff ha i, FeederState.energized]
  refine ⟨hj, ?_, ?_, fun hh => ?_, fun ha => ?_, fun hh => ?_, fun ha i => ?_, fun hh => ?_⟩
  · cases hh : s.hasCeiling with
    | true => exact (hceil hh).1
    | false =>
      obtain ⟨hsame, hval⟩ := hnoceil hh
      exact ceilOk_of_heldZero (hsame.trans (hheld hh)) (hval.trans (hc.1 (hheld hh)))
  · cases ha : s.isAux with
    | true => exact (hfeed ha).1
    | false => exact hempty ha
  · rw [hasCeiling_congr hst] at hh
    exact (hceil hh).2
  · rw [isAux_congr hst] at ha
    exact (hfeed ha).2
  · rw [hasCeiling_congr hst] at hh
    exact (hnoceil hh).1.trans (hheld hh)
  · rw [isAux_congr hst] at ha
    rw [hnofeed ha]
    exact hoff ha i
  · rw [contends_congr hst] at hh
    exact hwin hh

/-- What the draw reads is kept. -/
theorem drawOk_of_kept (h : drawOk s) (hk : Kept s t) : drawOk t := by
  obtain ⟨hline, hlimp, hgrants, hceil, hwin, hfeed, hst, hset, -⟩ := hk
  have hown : t.ownGrant = s.ownGrant := ownGrant_congr _ _ hst hgrants
  obtain ⟨hj, hc, hf, hle, hsum, -, -, hnone⟩ := id h
  refine drawOk_of_units h hst (joinOk_congr hline.join hlimp hwin hj) (fun hh => ?_)
    (fun _ => by rw [hceil]; exact ⟨rfl, rfl⟩) (fun ha => ⟨?_, ?_⟩) (fun _ => hfeed) (fun hh => hwin.trans (hnone hh))
  · rw [hceil, hown]
    exact ⟨ceilOk_congr (by rw [hwin]; exact id) rfl rfl rfl hc, hle hh⟩
  · rw [hfeed]
    exact feedOk_congr hwin hf
  · rw [energizedSum_congr hfeed (by rw [hset]), hown]
    exact hsum ha

end Records

section Sheds

variable {s : State} {f : Eight Feeder} {i : Fin 8} {x : Feeder} {nom : Eight Nat}

/-- A record that is not energized afterwards draws nothing. -/
theorem energizedSum_set_le (hx : x.st.energized = false) :
    Machine.energizedSum nom (f.set i x) ≤ Machine.energizedSum nom f := by
  refine sum_ofFn_le _ _ fun l => ?_
  simp only [feederLoad, get_set]
  split
  · simp [hx]
  · exact le_rfl

theorem energizedSum_moveFeeder_le {d : FeederState} {c n : Nat} (hd : d.energized = false) :
    (s.moveFeeder i d c n).energizedSum ≤ s.energizedSum := by
  simp only [State.energizedSum, moveFeeder_feed]
  have hset : (s.moveFeeder i d c n).port.settings = s.port.settings := by simp [State.moveFeeder]
  rw [hset]
  exact energizedSum_set_le hd

theorem overdrawShed_ok {n : Nat} {a : Arbiter} (h : feedOk a s.feed) :
    feedOk a (s.overdrawShed n).feed ∧ (s.overdrawShed n).energizedSum ≤ s.energizedSum := by
  unfold State.overdrawShed
  split
  · split
    · rename_i k hk
      have hon := shedTarget_energized s.feed k hk
      exact ⟨feedOk_move s k .waiting 6 n a h (fun hoff => by simp [hoff, FeederState.energized] at hon) (.inl rfl),
        energizedSum_moveFeeder_le rfl⟩
    · exact ⟨h, le_rfl⟩
  · exact ⟨h, le_rfl⟩

theorem comfortCut_ok {n : Nat} {a : Arbiter} (h : feedOk a s.feed) :
    feedOk a (s.comfortCut n).feed ∧ (s.comfortCut n).energizedSum ≤ s.energizedSum := by
  unfold State.comfortCut
  split
  · refine ⟨feedOk_deenergize _ _ _ _ _ h, ?_⟩
    rw [energizedSum_off (deenergize_all 5 n s)]
    exact Nat.zero_le _
  · exact ⟨h, le_rfl⟩

/-- At an AUX every feeder is de-energized (R164). -/
theorem feederClear_ok {a a' : Arbiter} (ha : s.isAux = true) (h : feedOk a s.feed) :
    feedOk a' s.feederClear.feed ∧ s.feederClear.energizedSum = 0 := by
  rw [State.feederClear, if_pos ha]
  have hoff := deenergize_all 8 s.countStamp s
  exact ⟨feedOk_of_not_energized (feedOk_deenergize _ _ _ _ _ h) hoff, energizedSum_off hoff⟩

/-- The feeder of a dropped window returns to WAITING, which leaves no feeder in INRUSH (R149, R158). -/
theorem feedOk_feedBack {a : Arbiter} (h : feedOk s.arb s.feed) : feedOk a (feedBack s) := by
  have hin : ∀ j, (s.feed.get j).st = .inrush → ∃ w, s.arb.window = some w ∧ w.feeder = some j := fun j => (h j).2
  have hstill : (∀ j, (s.feed.get j).st ≠ .inrush) → feedOk a s.feed := fun hno j =>
    ⟨(h j).1, fun hj => absurd hj (hno j)⟩
  unfold feedBack
  split
  · rename_i w hw
    split
    · rename_i n hn
      split
      · rename_i hon
        intro j
        rw [get_set]
        split
        · rename_i hj
          subst hj
          have hen := (h j).1
          simp only [hon] at hen
          exact ⟨by simpa using hen, fun hc => by simp at hc⟩
        · rename_i hj
          refine ⟨(h j).1, fun hc => ?_⟩
          obtain ⟨w', hw', hf⟩ := hin j hc
          rw [hw] at hw'
          cases hw'
          rw [hn] at hf
          exact absurd (Option.some.inj hf).symm hj
      · rename_i hoff
        refine hstill fun j hj => ?_
        obtain ⟨w', hw', hf⟩ := hin j hj
        rw [hw] at hw'
        cases hw'
        rw [hn] at hf
        cases hf
        exact hoff hj
    · rename_i hn
      refine hstill fun j hj => ?_
      obtain ⟨w', hw', hf⟩ := hin j hj
      rw [hw] at hw'
      cases hw'
      simp [hn] at hf
  · rename_i hw
    exact feedOk_of_no_window hw h

/-- The table of a role without feeders stays as it is. -/
theorem feedBack_of_off (hoff : ∀ i, (s.feed.get i).st = .off) : feedBack s = s.feed := by
  unfold feedBack
  split
  · split
    · rename_i n _
      rw [if_neg (by simp [hoff n])]
    · rfl
  · rfl

end Sheds

section Moves

variable {s : State}

/-- Entry to limp, from a state already CLASHED or in LINE_DOWN, brings the draw to the limp grant (R122, R133,
R159). -/
theorem drawOk_enterLimp {u : State} (h : drawOk s) (hu : LimpSame s u)
    (hj : u.line.join = .clashed ∨ u.line.join = .lineDown) : drawOk u.enterLimp := by
  obtain ⟨hst, hwin, hfeed, -, -, -, -, hceil⟩ := hu
  obtain ⟨-, hc, hf, -, -, -, hoff, -⟩ := id h
  have hrec : recOk (u.arb.window ≠ none) u.ceil := by
    have hflag : ∀ r, recOk (u.arb.window ≠ none) { s.ceil with regenOk := r } := fun r => by
      rw [hwin]; exact hc
    rw [hceil]
    exact hflag _
  have hfu : feedOk u.arb u.feed := by
    rw [hfeed]
    exact feedOk_congr hwin hf
  refine drawOk_of_units h (by simp [hst]) ⟨?_, fun hw => ?_⟩ (fun hh => ?_) (fun hh => ?_)
    (fun ha => ⟨?_, ?_⟩) (fun ha => ?_) (fun _ => by simp)
  · simp only [enterLimp_budget, limpSet, enterLimp_frame, hj]
  · simp at hw
  · rw [enterLimp_ceil (by rw [hasCeiling_congr hst, hh]), enterLimp_ownGrant]
    exact limpEntry_ok _ _ _ _ _ _ hrec
  · rw [enterLimp_ceil_of_not (by rw [hasCeiling_congr hst, hh]), hceil]
    exact ⟨rfl, rfl⟩
  · rw [enterLimp_eq]
    refine feedOk_shedToGrant _ _ _ ?_
    obtain ⟨-, hback, -⟩ := limpShed_frame u
    rw [hback]
    exact feedOk_feedBack hfu
  · rw [enterLimp_ownGrant]
    exact enterLimp_energizedSum (by rw [isAux_congr hst, ha])
  · rw [enterLimp_feed_of_not (by rw [isAux_congr hst, ha]), feedBack_of_off (by rw [hfeed]; exact hoff ha), hfeed]

/-- A station without ceiling, feeders and window draws nothing: entry to ASLEEP and station reset (R139, R149,
R164). -/
theorem drawOk_of_cleared {t : State} (h : drawOk s) (hst : t.straps = s.straps)
    (hlimp : t.budget.limp = false) (hawake : t.line.join ≠ .clashed) (hdown : t.line.join ≠ .lineDown)
    (harb : t.arb = ⟨0, none, .free⟩)
    (hceil : t.ceil = if s.hasCeiling then Ceil.clearedAt s.pins.eCut else { s.ceil with regenOk := false })
    (hfeed : s.isAux = true → ∃ n, ∀ k, t.feed.get k = turnedOff n (s.feed.get k))
    (hnofeed : s.isAux = false → t.feed = s.feed) : drawOk t := by
  obtain ⟨-, -, hf, -⟩ := id h
  refine drawOk_of_units h hst ⟨by simp [hlimp, hawake, hdown], fun hw => absurd (by rw [harb]) hw⟩
    (fun hh => ?_) (fun hh => ?_) (fun ha => ?_) hnofeed (fun _ => by rw [harb])
  · rw [hceil, if_pos hh]
    exact ⟨ceilOk_of_heldZero rfl rfl, Nat.zero_le _⟩
  · rw [hceil, if_neg (by simp [hh])]
    exact ⟨rfl, rfl⟩
  · obtain ⟨n, hoff⟩ := hfeed ha
    have hen : ∀ i, (t.feed.get i).st.energized = false := fun i => by rw [hoff]; exact turnedOff_off _ _
    refine ⟨fun i => ⟨?_, fun hin => ?_⟩, ?_⟩
    · have hrec := (hf i).1
      rw [hoff, turnedOff]
      split
      · rename_i he
        simpa [hrec] using fun hc => by simp [hc, FeederState.energized] at he
      · exact hrec
    · have := hen i
      simp [hin, FeederState.energized] at this
    · rw [energizedSum_off hen]
      exact Nat.zero_le _

theorem feedBack_of_draw {u : State} (h : drawOk s) (ha : s.isAux = false) (hf : u.feed = s.feed) :
    feedBack u = s.feed := by
  obtain ⟨-, -, -, -, -, -, hoff, -⟩ := h
  rw [feedBack_of_off (by rw [hf]; exact hoff ha), hf]

theorem drawOk_fallAsleep (h : drawOk s) : drawOk s.fallAsleep := by
  refine drawOk_of_cleared h (by simp) (by rw [fallAsleep_budget]; rfl) (by simp [fallAsleep_join])
    (by simp [fallAsleep_join]) (fallAsleep_arb s) (fallAsleep_ceil s)
    (fun ha => ⟨s.line.roundCount.toNat, fun k => ?_⟩) (fun ha => ?_)
  · rw [fallAsleep_feed, drawCleared_feed s ha]
  · rw [fallAsleep_feed, drawCleared_feed_of_not s ha, feedBack_of_draw h ha rfl]

theorem drawOk_resetAwake (h : drawOk s) : drawOk s.resetAwake := by
  refine drawOk_of_cleared h (by simp) (by rw [resetAwake_budget]; rfl)
    (by rw [resetAwake_line]; simp [Line.stationReset, Line.reset])
    (by rw [resetAwake_line]; simp [Line.stationReset, Line.reset]) (resetAwake_arb s) (resetAwake_ceil s)
    (fun ha => ⟨0, resetAwake_feed s ha⟩) (fun ha => ?_)
  rw [resetAwake_feed_of_not s ha, feedBack_of_draw h ha (by obtain ⟨-, -, hf, -⟩ := resetBase_frame s; exact hf)]

theorem drawOk_wake (own : Bool) (h : drawOk s) (hj : s.line.join = .asleep) : drawOk (s.wake own) := by
  obtain ⟨⟨hlimp, hwin⟩, hc, hf, -, hsum, -, -, hnone⟩ := id h
  have hjoin : (s.wake own).line.join = .listen := by rw [wake_line]; rfl
  have hnowin : s.arb.window = none := by
    by_contra hw
    have := hwin hw
    simp [hj, JoinState.sending] at this
  refine drawOk_of_units h (by simp) ⟨?_, fun hw => absurd hnowin (by simpa using hw)⟩ (fun hh => ?_) (fun hh => ?_)
    (fun ha => ⟨?_, ?_⟩) (fun _ => by simp) (fun _ => by simpa using hnowin)
  · simp [hlimp, hj, hjoin]
  · rw [wake_ceil, if_pos hh]
    exact ⟨ceilOk_of_heldZero rfl rfl, Nat.zero_le _⟩
  · rw [wake_ceil, if_neg (by simp [hh])]
    exact ⟨rfl, rfl⟩
  · simp only [wake_frame]
    exact hf
  · rw [energizedSum_congr (s := s) (by simp) (by simp), ownGrant_congr s _ (by simp) (by simp)]
    exact hsum ha

/-- Only feeder table, scanner and port of an AUX move, within its grant. -/
theorem drawOk_of_feed {t : State} (h : drawOk s) (hst : t.straps = s.straps) (hline : t.line = s.line)
    (hbud : t.budget = s.budget) (hceil : t.ceil = s.ceil) (harb : t.arb = s.arb)
    (hfeed : s.isAux = true → feedOk s.arb t.feed ∧ t.energizedSum ≤ s.ownGrant)
    (hnofeed : s.isAux = false → t.feed = s.feed) : drawOk t := by
  obtain ⟨hj, hc, -, hle, -, -, -, hnone⟩ := id h
  have hown : t.ownGrant = s.ownGrant := ownGrant_congr _ _ hst (by rw [hbud])
  refine drawOk_of_units h hst (joinOk_congr (by rw [hline]) (by rw [hbud]) (by rw [harb]) hj) (fun hh => ?_)
    (fun _ => by rw [hceil]; exact ⟨rfl, rfl⟩) (fun ha => ?_) hnofeed (fun hh => by rw [harb]; exact hnone hh)
  · rw [hceil, harb, hown]
    exact ⟨hc, hle hh⟩
  · rw [harb, hown]
    exact hfeed ha

/-- Only the ceiling record moves, within the grant. -/
theorem drawOk_of_ceil {t : State} (h : drawOk s) (hst : t.straps = s.straps) (hline : t.line = s.line)
    (hbud : t.budget = s.budget) (hfeed : t.feed = s.feed) (harb : t.arb = s.arb)
    (hset : t.port.settings = s.port.settings)
    (hceil : s.hasCeiling = true → ceilOk s.arb t.ceil ∧ t.ceil.ceiling ≤ s.ownGrant)
    (hnoceil : s.hasCeiling = false → t.ceil = s.ceil) : drawOk t := by
  obtain ⟨hj, -, hf, -, hsum, -, -, hnone⟩ := id h
  have hown : t.ownGrant = s.ownGrant := ownGrant_congr _ _ hst (by rw [hbud])
  refine drawOk_of_units h hst (joinOk_congr (by rw [hline]) (by rw [hbud]) (by rw [harb]) hj) (fun hh => ?_)
    (fun hh => by rw [hnoceil hh]; exact ⟨rfl, rfl⟩) (fun ha => ?_) (fun _ => hfeed)
    (fun hh => by rw [harb]; exact hnone hh)
  · rw [harb, hown]
    exact hceil hh
  · rw [harb, hfeed, hown, energizedSum_congr hfeed (by rw [hset])]
    exact ⟨hf, hsum ha⟩

theorem drawOk_ceilingCutNow (h : drawOk s) : drawOk s.ceilingCutNow := by
  refine drawOk_of_ceil h (by simp) (by simp) (by simp) (by simp) (by simp) (by simp) (fun hh => ?_) (fun hh => ?_)
  · rw [ceilingCutNow_ceil hh]
    exact ⟨cutCase_ok s.ceil _, Nat.zero_le _⟩
  · rw [ceilingCutNow_of_not_ceiling hh]

theorem drawOk_overdrawShed (n : Nat) (h : drawOk s) : drawOk (s.overdrawShed n) := by
  obtain ⟨-, -, hf, -, hsum, -⟩ := id h
  refine drawOk_of_feed h (by simp) (by simp) (by simp) (by simp) (by simp) (fun ha => ?_) (fun ha => ?_)
  · obtain ⟨hrec, hle⟩ := overdrawShed_ok (n := n) hf
    exact ⟨hrec, hle.trans (hsum ha)⟩
  · rw [overdrawShed_of_not_aux ha]

theorem drawOk_comfortCut (n : Nat) (h : drawOk s) : drawOk (s.comfortCut n) := by
  obtain ⟨-, -, hf, -, hsum, -⟩ := id h
  refine drawOk_of_feed h (by simp) (by simp) (by simp) (by simp) (by simp) (fun ha => ?_) (fun ha => ?_)
  · obtain ⟨hrec, hle⟩ := comfortCut_ok (n := n) hf
    exact ⟨hrec, hle.trans (hsum ha)⟩
  · exact congrArg State.feed (if_neg (by simp [ha]))

/-- A budget with the same grants and the same limp. -/
theorem drawOk_setBudget {b : Budget} (hl : b.limp = s.budget.limp) (hg : b.grants = s.budget.grants)
    (h : drawOk s) : drawOk (s.setBudget b) :=
  drawOk_of_kept h ⟨.refl _, hl, hg, rfl, rfl, rfl, rfl, rfl, rfl⟩

theorem moveCounts_kept (b : Budget) (m g i : Nat) :
    (b.moveCounts m g i).limp = b.limp ∧ (b.moveCounts m g i).grants = b.grants := by
  unfold Budget.moveCounts
  split
  · exact ⟨rfl, rfl⟩
  · split <;> exact ⟨rfl, rfl⟩

theorem vehicleCheck_kept (b : Budget) (t : Settings) (i : Nat) :
    (b.vehicleCheck t i).limp = b.limp ∧ (b.vehicleCheck t i).grants = b.grants := by
  unfold Budget.vehicleCheck
  split
  · split <;> exact ⟨rfl, rfl⟩
  · exact ⟨rfl, rfl⟩

theorem backWithin_kept (b : Budget) : b.backWithin.limp = b.limp ∧ b.backWithin.grants = b.grants := by
  unfold Budget.backWithin
  split <;> exact ⟨rfl, rfl⟩

theorem drawOk_trip (h : drawOk s) : drawOk s.trip :=
  drawOk_overdrawShed _ (drawOk_ceilingCutNow (drawOk_setBudget rfl rfl h))

/-- The checks on the measured current lower the draw if anything (R115, R116, R118, R131, R161). -/
theorem drawOk_overdrawCheck (r : Raw) (h : drawOk s) : drawOk (s.overdrawCheck r) := by
  unfold State.overdrawCheck
  split
  · unfold State.checkCurrent
    split
    · obtain ⟨hl, hg⟩ := vehicleCheck_kept s.budget s.port.settings (scaleCurrent s.port.settings.currSpan r)
      exact drawOk_setBudget hl hg h
    · split
      · obtain ⟨hl, hg⟩ := moveCounts_kept s.budget s.port.settings.ownMargin s.ownGrant
          (scaleCurrent s.port.settings.currSpan r)
        dsimp only
        split
        · exact drawOk_trip (drawOk_setBudget hl hg h)
        · obtain ⟨hl', hg'⟩ := backWithin_kept { (s.budget.moveCounts s.port.settings.ownMargin s.ownGrant
            (scaleCurrent s.port.settings.currSpan r)) with lastI := scaleCurrent s.port.settings.currSpan r }
          exact drawOk_setBudget (hl'.trans hl) (hg'.trans hg) h
      · exact h
  · exact h

theorem drawOk_setPort {q : Port} (hq : q.settings = s.port.settings) (h : drawOk s) : drawOk (s.setPort q) :=
  drawOk_of_kept h (kept_of_frame rfl rfl rfl rfl rfl rfl hq rfl)

theorem drawOk_demandCmd (v : BitVec 16) (h : drawOk s) : drawOk (s.demandCmd v) := by
  unfold State.demandCmd
  split
  · rename_i hh
    have hport : drawOk (s.setPort { s.port with demand := clampValue v }) := drawOk_setPort rfl h
    obtain ⟨-, hc, -, hle, -⟩ := id hport
    refine drawOk_of_ceil hport (by simp) (by simp) (by simp) (by simp) (by simp) (by simp) (fun _ => ?_)
      (fun hh' => ?_)
    · rw [putCeil_ceil]
      obtain ⟨hrec, hsame⟩ := demandMove_ok _ (clampValue v) (s.setPort { s.port with demand := clampValue v }).ownGrant
        _ hc
      exact ⟨hrec, hsame.le.trans (hle hh)⟩
    · exact absurd hh (Bool.eq_false_iff.1 hh')
  · exact drawOk_setPort rfl h

theorem drawOk_feederMaskCmd (m : Byte) (h : drawOk s) : drawOk (s.feederMaskCmd m) := by
  cases ha : s.isAux with
  | false =>
    rw [feederMaskCmd_of_not_aux ha]
    exact drawOk_setPort rfl h
  | true =>
    obtain ⟨⟨hlimp, hwin⟩, hc, hf, hle, hsum, -, -, hnone⟩ := id h
    have hceil : s.hasCeiling = false := by
      by_contra hh
      have := isAux_of_hasCeiling (by simpa using hh)
      simp [ha] at this
    have hown : (s.feederMaskCmd m).ownGrant = s.ownGrant := ownGrant_congr _ _ (by simp) (by simp)
    have hwin' : (s.feederMaskCmd m).arb.window ≠ none → s.arb.window ≠ none := by
      rw [feederMaskCmd_arb ha]
      split
      · simp
      · exact id
    refine drawOk_of_units h (by simp) ⟨by simpa using hlimp, fun hw => by simpa using hwin (hwin' hw)⟩
      (fun hh => absurd hh (by simp [hceil])) (fun _ => by simp) (fun _ => ⟨fun k => ?_, ?_⟩)
      (fun hh => absurd hh (by simp [ha])) (fun hh => by by_contra hw; exact hwin' hw (hnone hh))
    · rw [feederMaskCmd_feed ha, masked]
      split
      · rename_i hen
        refine ⟨(hf k).1, fun hin => ?_⟩
        obtain ⟨w, hw, hk⟩ := (hf k).2 hin
        have hon : (s.feed.get k).enable = true := (hf k).1.2 (by simp [hin])
        refine ⟨w, ?_, hk⟩
        rw [feederMaskCmd_arb ha, if_neg, hw]
        rw [disabledBy_iff]
        rintro ⟨w', k', hw', hk', hm⟩
        rw [hw] at hw'
        cases hw'
        rw [hk] at hk'
        cases hk'
        rw [← hen, hon] at hm
        cases hm
      · cases m.getLsbD k.val <;> simp [feederOk]
    · rw [hown]
      refine le_trans (sum_ofFn_le _ _ fun l => ?_) (hsum ha)
      simp only [feederLoad, feederMaskCmd_feed ha, masked, feederMaskCmd_frame]
      split
      · exact le_rfl
      · cases m.getLsbD l.val <;> simp [FeederState.energized]

/-- A code that is no NOMINAL_A leaves the nominals (R193). -/
theorem put_nominal {x y : Settings} {code v : Nat} (h : x.put code v = some y)
    (hc : isNominalCode code = false) : y.nominal = x.nominal := by
  unfold Settings.put at h
  split at h
  case h_29 =>
    split at h
    · rename_i hn
      exact absurd hn (by simpa [isNominalCode] using hc)
    · split at h <;> cases h
      rfl
  all_goals (cases h; rfl)

theorem settingWritten_feed (code : Nat) (hc : isNominalCode code = false) : (s.settingWritten code).feed = s.feed := by
  unfold State.settingWritten State.settleNow
  split
  · split <;> rfl
  · rw [if_neg (by simp [hc])]

theorem settingWritten_nominal {code : Nat} (hc : isNominalCode code = true) :
    s.settingWritten code = s.shedToGrant s.countStamp := by
  have hne : code ≠ 34 := by
    rintro rfl
    simp [isNominalCode] at hc
  rw [State.settingWritten, if_neg hne, if_pos hc]

theorem cfgWrite_put {item : Byte} {v : BitVec 16} {x : Settings} (hl : s.port.locked = false)
    (hx : s.port.settings.put item.toNat v.toNat = some x) :
    s.cfgWrite item v = (s.setPort { s.port with settings := x }).settingWritten item.toNat := by
  simp [State.cfgWrite, hl, hx]

theorem cfgWrite_none {item : Byte} {v : BitVec 16} (hx : s.port.settings.put item.toNat v.toNat = none) :
    s.cfgWrite item v = s.refuse := by
  simp [State.cfgWrite, hx]

theorem cfgWrite_locked {item : Byte} {v : BitVec 16} (hl : s.port.locked = true) : s.cfgWrite item v = s.refuse :=
  if_pos hl

/-- A nominal written sheds at once to the own grant (R159, R193). -/
theorem drawOk_cfgWrite (item : Byte) (v : BitVec 16) (h : drawOk s) : drawOk (s.cfgWrite item v) := by
  cases hl : s.port.locked with
  | true => rw [cfgWrite_locked hl]; exact drawOk_setPort rfl h
  | false =>
    cases hx : s.port.settings.put item.toNat v.toNat with
    | none => rw [cfgWrite_none hx]; exact drawOk_setPort rfl h
    | some x =>
      obtain ⟨-, -, hf, -, hsum, -⟩ := id h
      rw [cfgWrite_put hl hx]
      cases hc : isNominalCode item.toNat with
      | false =>
        have hfeed := settingWritten_feed (s := s.setPort { s.port with settings := x }) item.toNat hc
        refine drawOk_of_feed h (by simp) (by simp) (by simp) (by simp) (by simp) (fun ha => ⟨?_, ?_⟩)
          (fun _ => hfeed)
        · rw [hfeed]; exact hf
        · rw [energizedSum_congr (s := s) hfeed (by simpa using put_nominal hx hc)]
          exact hsum ha
      | true =>
        rw [settingWritten_nominal hc]
        refine drawOk_of_feed h (by simp) (by simp) (by simp) (by simp) (by simp) (fun ha => ⟨?_, ?_⟩) (fun ha => ?_)
        · exact feedOk_shedToGrant _ _ _ hf
        · exact shedToGrant_sum (s.setPort { s.port with settings := x }) _ ha
        · rw [shedToGrant_of_not_aux (s := s.setPort { s.port with settings := x }) ha]
          rfl

theorem drawOk_calm {t : State} (h : drawOk s) (hc : Calm s t) : drawOk t := by
  cases hc with
  | kept _ hk => exact drawOk_of_kept h hk
  | lineDown c v n => exact drawOk_enterLimp h (limpSame_downBase s c v n) (.inr rfl)
  | clashed k => exact drawOk_enterLimp h (limpSame_clashBase s k) (.inl rfl)
  | asleep => exact drawOk_fallAsleep h
  | wake own hj => exact drawOk_wake own h hj
  | reset => exact drawOk_resetAwake h
  | overdraw r => exact drawOk_overdrawCheck r h
  | eCut n => exact drawOk_comfortCut n (drawOk_ceilingCutNow h)
  | cfgWrite item v => exact drawOk_cfgWrite item v h
  | demand v => exact drawOk_demandCmd v h
  | feederMask m => exact drawOk_feederMaskCmd m h

theorem drawOk_calmRun {t : State} (h : drawOk s) (hr : CalmRun s t) : drawOk t := by
  induction hr with
  | refl => exact h
  | tail _ hc ih => exact drawOk_calm ih hc

end Moves

section PowerOn

/-- The records at reset, whatever the straps (R127, R154). -/
theorem drawOk_reset (st : Straps) : drawOk (State.reset.setStraps st) := by
  have hfeed : ∀ i, (State.reset.setStraps st).feed.get i = ⟨false, .off, 0⟩ := get_all _
  have hoff : ∀ i, ((State.reset.setStraps st).feed.get i).st.energized = false := fun i => by rw [hfeed]; rfl
  refine ⟨show joinOk State.reset from ⟨by decide, by decide⟩, ceilOk_of_heldZero rfl rfl, fun i => ?_,
    fun _ => Nat.zero_le _, fun _ => ?_, fun _ => rfl, fun _ i => by rw [hfeed], fun _ => rfl⟩
  · rw [hfeed]
    simp [feederOk]
  · rw [energizedSum_off hoff]
    exact Nat.zero_le _

theorem drawOk_powerOn (st : Straps) (p : Pins) (q : List Instr) : drawOk (powerOnState st p q) := by
  have hreset := drawOk_reset st
  have hbase : drawOk (powerBase st p q) :=
    drawOk_of_kept hreset ⟨⟨rfl, rfl, id⟩, rfl, rfl, rfl, rfl, rfl, rfl, rfl, rfl⟩
  have hclear : drawOk (powerBase st p q).clearCeil := by
    refine drawOk_of_ceil hbase (by simp) (by simp) (by simp) (by simp) (by simp) (by simp) (fun hh => ?_)
      (fun hh => ?_)
    · rw [clearCeil_ceil, if_pos hh]
      exact ⟨ceilOk_of_heldZero rfl rfl, Nat.zero_le _⟩
    · rw [clearCeil_ceil, if_neg (by simp [hh])]
  rw [powerOnState_eq, scanStart_eq]
  exact drawOk_of_kept hclear (kept_of_frame rfl rfl rfl rfl rfl rfl rfl rfl)

end PowerOn

end Sys2Proof.Proofs

/-! # The draw at a start frame event (R133, R159, R162) -/

namespace Sys2Proof.Proofs

open Sys2Proof.Machine Sys2Proof.Laws

section Start

variable {s : State}

theorem joinAtStart_of_not_listen (h : s.line.join ≠ .listen) : s.joinAtStart = s.line.join := by
  simp [State.joinAtStart, h]

theorem joinAtStart_of_listen (h : s.line.join = .listen) :
    s.joinAtStart = .listen ∨ s.joinAtStart = .joining := by
  unfold State.joinAtStart
  split
  · exact .inr rfl
  · exact .inl h

theorem startBase_join : (startBase s).line.join = s.joinAtStart := by simp [startBase, Line.latch]

/-- A LISTEN station that becomes JOINING holds no window and is not in limp. -/
theorem joinOk_startBase (h : joinOk s) : joinOk (startBase s) := by
  obtain ⟨-, -, -, -, -, -, -, -, -, -, hbud⟩ := startBase_frame (s := s)
  obtain ⟨hlimp, hwin⟩ := h
  simp only [joinOk, startBase_join, startBase_arb, hbud]
  by_cases hl : s.line.join = .listen
  · have hnone : s.arb.window = none := by
      by_contra hw
      simpa [hl, JoinState.sending] using hwin hw
    rw [hlimp, hl]
    rcases joinAtStart_of_listen hl with hj | hj <;> simp [hj, hnone]
  · rw [joinAtStart_of_not_listen hl]
    exact ⟨hlimp, hwin⟩

theorem drawOk_startBase (h : drawOk s) : drawOk (startBase s) := by
  obtain ⟨hst, -, -, -, hceil, hfeed, -, hport, -, -, hbud⟩ := startBase_frame (s := s)
  obtain ⟨hj, hc, hf, hle, hsum, -, -, hnone⟩ := id h
  have hown : (startBase s).ownGrant = s.ownGrant := ownGrant_congr _ _ hst (by rw [hbud])
  refine drawOk_of_units h hst (joinOk_startBase hj) (fun hh => ?_) (fun _ => by rw [hceil]; exact ⟨rfl, rfl⟩)
    (fun ha => ?_) (fun _ => hfeed) (fun hh => ?_)
  · rw [hceil, hown, startBase_arb]
    exact ⟨hc, hle hh⟩
  · rw [energizedSum_congr hfeed (by rw [hport]), hown, hfeed, startBase_arb]
    exact ⟨hf, hsum ha⟩
  · rw [startBase_arb]
    exact hnone hh

theorem feedOk_limpRestart {a : Arbiter} {n : Nat} (h : feedOk a s.feed) : feedOk a (s.limpRestart n).feed := by
  unfold State.limpRestart
  split
  · split
    · rename_i k hk
      split
      · obtain ⟨hwait, -⟩ := nextFeeder_eq_some_iff.1 hk
        exact feedOk_move s k .on 7 n a h (by simp [hwait]) (.inr rfl)
      · exact h
    · exact h
  · exact h

theorem window_none_of_limp (h : joinOk s) (hl : s.budget.limp = true) : s.arb.window = none := by
  obtain ⟨hlimp, hwin⟩ := h
  by_contra hw
  have hs := hwin hw
  rcases hlimp.1 hl with hj | hj <;> simp [hj, JoinState.sending] at hs

theorem limpAtStart_arb : s.limpAtStart.arb = s.arb := by simp

/-- The limp evaluation of a start frame event keeps the draw within the limp grant (R133, R159, R162). -/
theorem drawOk_limpAtStart (h : drawOk s) (hstep : 1 ≤ s.port.settings.riseStep) : drawOk s.limpAtStart := by
  cases hl : s.budget.limp with
  | false => rw [limpAtStart_of_not hl]; exact h
  | true =>
    obtain ⟨hj, hc, hf, -⟩ := id h
    have hnone := window_none_of_limp hj hl
    have hown : s.limpAtStart.ownGrant = limpShare s s.feed := limpSet_ownGrant s _ (limpAtStart_budget hl) (by simp)
    refine drawOk_of_units h (by simp) (joinOk_congr (by simp) ?_ (by simp) hj) (fun hh => ?_) (fun hh => ?_)
      (fun ha => ⟨?_, ?_⟩) limpAtStart_feed_of_not (fun _ => by simpa using hnone)
    · rw [limpAtStart_budget hl, hl]
      rfl
    · rw [limpAtStart_ceil hl hh, hown, limpAtStart_arb]
      exact limpAct_ok _ _ _ _ _ _ hc hstep
    · rw [limpAtStart_ceil_of_not hh]
      exact ⟨rfl, rfl⟩
    · obtain ⟨-, hfeed, -⟩ := ceilingLimp_frame' hl
      rw [limpAtStart_eq hl, limpShed]
      refine feedOk_limpRestart (feedOk_shedToGrant _ _ _ ?_)
      rw [hfeed]
      exact feedOk_congr (by simp) hf
    · rw [hown]
      exact limpAtStart_sum hl ha

theorem riseStep_pos (h : settingsOk s.port.settings) : 1 ≤ s.port.settings.riseStep := by
  obtain ⟨-, -, hrise, -⟩ := h
  exact hrise

theorem drawOk_setScan {x : Scan} (h : drawOk s) : drawOk (s.setScan x) :=
  drawOk_of_kept h (kept_of_frame rfl rfl rfl rfl rfl rfl rfl rfl)

theorem drawOk_startFrame (h : drawOk s) (hset : settingsOk s.port.settings) : drawOk s.startFrame := by
  obtain ⟨-, -, -, -, -, -, -, hport, -⟩ := startBase_frame (s := s)
  have hacted : drawOk (startBase s).limpAtStart :=
    drawOk_limpAtStart (drawOk_startBase h) (by rw [hport]; exact riseStep_pos hset)
  rw [startFrame_eq]
  generalize (startBase s).limpAtStart = u at hacted ⊢
  obtain ⟨x, hx⟩ := captureB_eq u
  rw [hx]
  exact drawOk_setScan hacted

end Start

end Sys2Proof.Proofs

/-! # The blocks that act at a completion (R58, R129, R144 to R147, R157 to R159)

What the arbiter, the ceiling unit and the feeders of a completed round leave, and what each of them reads. -/

namespace Sys2Proof.Proofs

open Sys2Proof.Machine Sys2Proof.Laws

section Acts

variable (s : State) (r : RoundRecord)

/-- The station once arbiter, pole watch and slate have acted (R58). -/
def ownersActed : State := ((s.arbUpdate r).poleUpdate r).slateUpdate r

/-- The station once the ceiling unit has acted as well (R129). -/
def ceilingActed : State := (ownersActed s r).ceilingUpdate r (s.arbAct r).event

/-- The feeders' window event (R158). -/
def windowMoved : State := (ceilingActed s r).feederWindow (s.arbAct r).event r.stamp

/-- The comfort cut of the round (R160). -/
def cutActed : State :=
  if r.marks.cut || (windowMoved s r).pins.eCut then (windowMoved s r).comfortCut r.stamp else windowMoved s r

theorem actUpdate_eq : s.actUpdate r =
    ((ceilingActed s r).feederUpdate r (s.arbAct r).event).regenUpdate r := rfl

/-- The arbiter after a view update (R142, R150, R152). -/
def arbActed : Arbiter :=
  { waited := waitedAfter s.arb.waited (s.arbAct r).event.isTaken r.keySent
    window := (s.arbAct r).window
    holder := (s.arbAct r).holder.getD (holderOfRound r s.arb.holder) }

theorem arbUpdate_arb : (s.arbUpdate r).arb = arbActed s r := by
  simp only [State.arbUpdate]
  unfold State.windowNotice
  split
  · rfl
  · split <;> rfl

theorem ownersActed_frame : (ownersActed s r).straps = s.straps ∧ (ownersActed s r).pins = s.pins ∧
    (ownersActed s r).line = s.line ∧ (ownersActed s r).view = s.view ∧ (ownersActed s r).budget = s.budget ∧
    (ownersActed s r).ceil = s.ceil ∧ (ownersActed s r).feed = s.feed ∧
    (ownersActed s r).port.settings = s.port.settings ∧ (ownersActed s r).port.demand = s.port.demand ∧
    (ownersActed s r).arb = arbActed s r := by
  simp [ownersActed, arbUpdate_arb]

theorem ceilingActed_frame : (ceilingActed s r).straps = s.straps ∧ (ceilingActed s r).pins = s.pins ∧
    (ceilingActed s r).line = s.line ∧ (ceilingActed s r).view = s.view ∧ (ceilingActed s r).budget = s.budget ∧
    (ceilingActed s r).feed = s.feed ∧ (ceilingActed s r).port.settings = s.port.settings ∧
    (ceilingActed s r).arb = arbActed s r := by
  obtain ⟨hst, hpins, hline, hview, hbud, -, hfeed, hset, -, harb⟩ := ownersActed_frame s r
  simp [ceilingActed, hst, hpins, hline, hview, hbud, hfeed, hset, harb]

theorem actUpdate_arb : (s.actUpdate r).arb = arbActed s r := by
  obtain ⟨-, -, -, -, -, -, -, harb⟩ := ceilingActed_frame s r
  simp [actUpdate_eq, harb]

/-- The ceiling record after the ceiling unit has acted; in limp only CUT does (R129, R133). -/
def ceilMoved : Ceil :=
  if s.budget.limp then
    if r.marks.cut then ({ s.ceil with limpCut := r.marks.cut } : Ceil).cutCase
    else { s.ceil with limpCut := r.marks.cut }
  else s.ceil.act s.port.demand s.ownGrant s.port.settings.riseStep (r.marks.cut || s.localCut) (s.arbAct r).event

variable {s r}

theorem ceilingActed_eq (h : s.hasCeiling = true) :
    ceilingActed s r = (ownersActed s r).putCeil (ceilMoved s r) r.stamp := by
  obtain ⟨hst, hpins, -, -, hbud, hceil, -, hset, hdem, -⟩ := ownersActed_frame s r
  have hown : (ownersActed s r).ownGrant = s.ownGrant := ownGrant_congr _ _ hst (by rw [hbud])
  have hcut : (ownersActed s r).localCut = s.localCut := by simp only [State.localCut, hpins, hbud]
  rw [ceilingActed, State.ceilingUpdate, if_pos (by rw [hasCeiling_congr hst, h]), hbud, hceil, hset, hdem, hown,
    hcut, ceilMoved]
  split <;> rfl

theorem ceilingActed_of_not (h : s.hasCeiling = false) : ceilingActed s r = ownersActed s r := by
  obtain ⟨hst, -⟩ := ownersActed_frame s r
  exact if_neg (by simp [hasCeiling_congr hst, h])

theorem isDrive_congr {t : State} (h : t.straps = s.straps) : t.isDrive = s.isDrive := by
  obtain ⟨_, _, hd, _⟩ := roles_congr s t h
  exact hd

theorem isDrive_of_not_ceiling (h : s.hasCeiling = false) : s.isDrive = false := by
  simp only [State.hasCeiling, Bool.or_eq_false_iff] at h
  exact h.1

theorem regenUpdate_ceil (u : State) : (u.regenUpdate r).ceil = { u.ceil with
    regenOk := if u.isDrive then !r.marks.regenBar && !u.view.lineOff else u.ceil.regenOk } := by
  unfold State.regenUpdate
  split <;> rfl

/-- The ceiling record after a view update (R129, R135). -/
theorem actUpdate_ceil (h : s.hasCeiling = true) : (s.actUpdate r).ceil = { ceilMoved s r with
    regenOk := if s.isDrive then !r.marks.regenBar && !s.view.lineOff else (ceilMoved s r).regenOk } := by
  obtain ⟨hst, -, -, hview, -⟩ := ceilingActed_frame s r
  have hceil : ((ceilingActed s r).feederUpdate r (s.arbAct r).event).ceil = ceilMoved s r := by
    rw [ceilingActed_eq h]
    simp [putCeil_ceil]
  have hview' : ((ceilingActed s r).feederUpdate r (s.arbAct r).event).view = s.view := by simp [hview]
  rw [actUpdate_eq, regenUpdate_ceil, hceil, hview', isDrive_congr (s := s) (by simp [hst])]

theorem actUpdate_ceil_of_not (h : s.hasCeiling = false) : (s.actUpdate r).ceil = s.ceil := by
  obtain ⟨-, -, -, -, -, hceil, -⟩ := ownersActed_frame s r
  obtain ⟨hst, -⟩ := ceilingActed_frame s r
  rw [actUpdate_eq, regenUpdate_ceil, isDrive_congr (s := s) (by simp [hst]), isDrive_of_not_ceiling h,
    ceilingActed_of_not h]
  simp [hceil]

theorem actUpdate_feed_of_limp (h : s.budget.limp = true) : (s.actUpdate r).feed = s.feed := by
  obtain ⟨-, -, -, -, hbud, hfeed, -⟩ := ceilingActed_frame s r
  have hstill : (ceilingActed s r).feederUpdate r (s.arbAct r).event = ceilingActed s r :=
    if_neg (by simp [hbud, h])
  rw [actUpdate_eq, hstill]
  simp [hfeed]

theorem actUpdate_feed_of_not_aux (h : s.isAux = false) : (s.actUpdate r).feed = s.feed := by
  obtain ⟨hst, -, -, -, -, hfeed, -⟩ := ceilingActed_frame s r
  have hstill : (ceilingActed s r).feederUpdate r (s.arbAct r).event = ceilingActed s r :=
    if_neg (by simp [isAux_congr hst, h])
  rw [actUpdate_eq, hstill]
  simp [hfeed]

/-- The feeder unit of an AUX out of limp: window event, comfort cut, shedding (R157). -/
theorem feederUpdate_eq (ha : s.isAux = true) (hl : s.budget.limp = false) :
    (ceilingActed s r).feederUpdate r (s.arbAct r).event = (cutActed s r).shedToGrant r.stamp := by
  obtain ⟨hst, hpins, -, -, hbud, -⟩ := ceilingActed_frame s r
  have hpins' : (windowMoved s r).pins = (ceilingActed s r).pins := by simp [windowMoved]
  rw [State.feederUpdate, if_pos (by simp [isAux_congr hst, ha, hbud, hl]), cutActed, hpins']
  rfl

theorem cutActed_frame : (cutActed s r).straps = s.straps ∧ (cutActed s r).budget = s.budget ∧
    (cutActed s r).port.settings = s.port.settings := by
  obtain ⟨hst, -, -, -, hbud, -, hset, -⟩ := ceilingActed_frame s r
  unfold cutActed
  split <;> simp [windowMoved, hst, hbud, hset]

theorem cutActed_ownGrant : (cutActed s r).ownGrant = s.ownGrant := by
  obtain ⟨hst, hbud, -⟩ := cutActed_frame (s := s) (r := r)
  exact ownGrant_congr _ _ hst (by rw [hbud])

theorem actUpdate_feed (ha : s.isAux = true) (hl : s.budget.limp = false) :
    (s.actUpdate r).feed = ((cutActed s r).shedToGrant r.stamp).feed := by
  rw [actUpdate_eq, feederUpdate_eq ha hl]
  simp

theorem actUpdate_sum (ha : s.isAux = true) (hl : s.budget.limp = false) :
    (s.actUpdate r).energizedSum ≤ s.ownGrant := by
  obtain ⟨hst, -, hset⟩ := cutActed_frame (s := s) (r := r)
  rw [energizedSum_congr (actUpdate_feed ha hl) (by simp [hset]), ← cutActed_ownGrant (r := r)]
  exact shedToGrant_sum _ _ (by rw [isAux_congr hst, ha])

end Acts

section Windows

variable {s : State} {r : RoundRecord} {a a' : Arbiter} {w w' : Option Window} {e : WindowEvent} {n : Nat}

/-- What a view update does to the own window, with the event it hands on (R144 to R147). -/
inductive WindowMove : Option Window → Option Window → WindowEvent → Prop where
  | none : WindowMove none none .none
  | held (w w' : Window) (h : w'.feeder = w.feeder) : WindowMove (some w) (some w') .held
  | taken (w : Window) : WindowMove none (some w) (.taken w.feeder)
  | ended (w : Window) : WindowMove (some w) none (.ended w.feeder)
  | abandoned (w : Window) : WindowMove (some w) none (.abandoned w.feeder)

theorem heldAct_move (x : Window) (r : RoundRecord) :
    WindowMove (some x) (heldAct x r).window (heldAct x r).event := by
  unfold heldAct
  split
  · split
    · exact .abandoned x
    · split
      · exact .held x _ rfl
      · exact .ended x
  · exact .held x x rfl

theorem winAct_move (s : State) : WindowMove none s.winAct.window s.winAct.event := by
  unfold State.winAct
  split
  · split
    · split
      · exact .taken ⟨_, _, _⟩
      · exact .none
    · exact .none
  · exact .taken ⟨_, _, _⟩

theorem arbAct_move (s : State) (r : RoundRecord) :
    WindowMove s.arb.window (s.arbAct r).window (s.arbAct r).event := by
  unfold State.arbAct
  split
  · rename_i x hx
    rw [hx]
    exact heldAct_move x r
  · rename_i hx
    rw [hx]
    split
    · exact winAct_move s
    · exact .none

/-- A window that is held afterwards was held before, or is taken. -/
theorem arbAct_window_ne (h : (s.arbAct r).window ≠ none) : s.arb.window ≠ none ∨ s.mayTake r = true := by
  unfold State.arbAct at h
  split at h
  · rename_i x hx
    exact .inl (by simp [hx])
  · split at h
    · rename_i hmay
      exact .inr hmay
    · exact absurd rfl h

theorem mayTake_iff : s.mayTake r = true ↔
    s.contends = true ∧ r.keyWon = true ∧ r.marks.clean = true ∧ r.join.sending = true := by
  simp [State.mayTake, and_assoc]

theorem inrush_of_window {f : Eight Feeder} {x : Window} {k : Fin 8} (h : feedOk a f) (hx : a.window = some x)
    (hk : (f.get k).st = .inrush) : x.feeder = some k := by
  obtain ⟨y, hy, hf⟩ := (h k).2 hk
  rw [hx] at hy
  cases hy
  exact hf

/-- The window's feeder moves out of INRUSH, and no other is in it. -/
theorem feedOk_moved_out {k : Fin 8} {d : FeederState} {c : Nat} (h : feedOk a s.feed)
    (hk : (s.feed.get k).st = .inrush) (hd : d = .waiting ∨ d = .on)
    (honly : ∀ j, (s.feed.get j).st = .inrush → j = k) :
    feedOk a' (s.moveFeeder k d c n).feed := by
  intro j
  rw [moveFeeder_feed, get_set]
  split
  · have hen := (h k).1
    rename_i hj
    subst hj
    rcases hd with rfl | rfl <;> simpa [feederOk, hk] using hen
  · rename_i hj
    exact ⟨(h j).1, fun hin => absurd (honly j hin) hj⟩

/-- A window event leaves the records in order against the window after it (R158). -/
theorem feedOk_feederWindow (h : feedOk a s.feed) (hm : WindowMove a.window a'.window e) :
    feedOk a' (s.feederWindow e n).feed := by
  generalize hw : a.window = w at hm
  generalize hw' : a'.window = w' at hm
  cases hm with
  | none => exact feedOk_of_no_window hw h
  | held x y hf =>
    refine fun k => ⟨(h k).1, fun hin => ⟨y, hw', ?_⟩⟩
    rw [hf]
    exact inrush_of_window h hw hin
  | taken x =>
    have hstill : feedOk a' s.feed := feedOk_of_no_window hw h
    cases hf : x.feeder with
    | none => exact hstill
    | some k =>
      simp only [State.feederWindow]
      split
      · rename_i hwait
        intro j
        rw [moveFeeder_feed, get_set]
        split
        · rename_i hj
          subst hj
          have hen := (h j).1
          exact ⟨by simpa [hwait] using hen, fun _ => ⟨x, hw', hf⟩⟩
        · exact hstill j
      · exact hstill
  | ended x | abandoned x =>
    have hin : ∀ j, (s.feed.get j).st = .inrush → x.feeder = some j := fun j => inrush_of_window h hw
    have hstill : (∀ j, (s.feed.get j).st ≠ .inrush) → feedOk a' s.feed := fun hno j =>
      ⟨(h j).1, fun hj => absurd hj (hno j)⟩
    cases hf : x.feeder with
    | none => exact hstill fun j hj => by simpa [hf] using hin j hj
    | some k =>
      simp only [State.feederWindow, State.feederBack]
      have honly : ∀ j, (s.feed.get j).st = .inrush → j = k := fun j hj => by
        have := hin j hj
        rw [hf] at this
        exact (Option.some.inj this).symm
      split
      · rename_i hk
        exact feedOk_moved_out h hk (by decide) honly
      · rename_i hk
        exact hstill fun j hj => hk (honly j hj ▸ hj)

end Windows

end Sys2Proof.Proofs

/-! # The draw at a completion (R124, R129, R144, R157 to R159) -/

namespace Sys2Proof.Proofs

open Sys2Proof.Machine Sys2Proof.Laws

section Evaluated

variable (s : State) (m : Mode)

/-- The station of a completed round once line engine, view and budget unit have acted (R13, R58). -/
def evaluated : State := (s.lineComplete m).evalUpdate (recordRead s)

/-- The station of a completed round before the layover step (R58, R178). -/
def acted : State := (evaluated s m).actUpdate (recordRead s)

theorem complete_eq : s.complete m = (acted s m).layoverStep (recordRead s) := rfl

theorem evalUpdate_line (u : State) (r : RoundRecord) :
    (u.evalUpdate r).line = { u.line with layoverRead := r.marks.layover } := by
  simp [State.evalUpdate, State.layoverFlag]

theorem evaluated_frame : (evaluated s m).straps = s.straps ∧ (evaluated s m).pins = s.pins ∧
    (evaluated s m).ceil = s.ceil ∧ (evaluated s m).arb = s.arb ∧ (evaluated s m).feed = s.feed ∧
    (evaluated s m).port.settings = s.port.settings ∧ (evaluated s m).port.demand = s.port.demand ∧
    (evaluated s m).view = s.view.absorb (recordRead s) ∧ (evaluated s m).line.join = s.line.joinDone := by
  refine ⟨?_, ?_, ?_, ?_, ?_, ?_, ?_, ?_, ?_⟩
  case refine_8 => simp [evaluated, evalUpdate_view]
  case refine_9 => simp [evaluated, evalUpdate_line, lineComplete_line, Line.complete]
  all_goals simp [evaluated]

/-- The budget of a completed round: limp left, then a view evaluation where the station sends (R108, R124). -/
theorem evaluated_budget : (evaluated s m).budget =
    if s.line.joinDone.sending then
      (s.lineComplete m).budget.viewEval s.port.settings (s.view.absorb (recordRead s)) (recordRead s).stamp
    else (s.lineComplete m).budget := by
  have hjoin : (recordRead s).join = s.line.joinDone := rfl
  rw [evaluated, State.evalUpdate, budgetUpdate_budget, hjoin]
  simp [State.layoverFlag, State.absorb]

theorem acted_frame : (acted s m).straps = s.straps ∧ (acted s m).line.join = s.line.joinDone ∧
    (acted s m).budget = (evaluated s m).budget ∧ (acted s m).view = s.view.absorb (recordRead s) ∧
    (acted s m).arb = arbActed (evaluated s m) (recordRead s) ∧
    (acted s m).ownGrant = (evaluated s m).ownGrant := by
  obtain ⟨hst, -, -, -, -, -, -, hview, hjoin⟩ := evaluated_frame s m
  refine ⟨by simp [acted, hst], by simp [acted, hjoin], by simp [acted], by simp [acted, hview], ?_, ?_⟩
  · rw [acted, actUpdate_arb]
  · exact ownGrant_congr _ _ (by simp [acted]) (by simp [acted])

end Evaluated

section Joins

variable {s : State} {m : Mode}

theorem evaluated_limp_of_sending (h : s.line.joinDone.sending = true) : (evaluated s m).budget.limp = false := by
  rw [evaluated_budget, if_pos h]
  rfl

theorem evaluated_budget_of_not_sending (h : s.line.joinDone.sending = false) : (evaluated s m).budget =
    if s.line.leavesLimp then { s.budget with limp := false } else s.budget := by
  rw [evaluated_budget, if_neg (by simp [h]), lineComplete_budget]

/-- A completion in CLASHED or LINE_DOWN leaves both for LISTEN, or the station stays CLASHED (R36, R38). -/
theorem joinDone_of_limping {l : Line} (h : l.join = .clashed ∨ l.join = .lineDown) :
    (l.joinDone = .listen ∧ l.leavesLimp = true) ∨ (l.joinDone = .clashed ∧ l.leavesLimp = false) := by
  rcases h with h | h
  · by_cases hb : l.backoff + 1 < Config.backoffRounds
    · have hd : l.joinDone = .clashed := by rw [Line.joinDone, h]; exact if_pos hb
      exact .inr ⟨hd, by simp [Line.leavesLimp, hd]⟩
    · have hd : l.joinDone = .listen := by rw [Line.joinDone, h]; exact if_neg hb
      exact .inl ⟨hd, by simp [Line.leavesLimp, h, hd]⟩
  · have hd : l.joinDone = .listen := by rw [Line.joinDone, h]
    exact .inl ⟨hd, by simp [Line.leavesLimp, h, hd]⟩

/-- A completion of a station in neither enters neither. -/
theorem joinDone_of_not_limping {l : Line} (h : ¬(l.join = .clashed ∨ l.join = .lineDown)) :
    ¬(l.joinDone = .clashed ∨ l.joinDone = .lineDown) ∧ l.leavesLimp = false := by
  unfold Line.leavesLimp Line.joinDone
  cases hj : l.join <;> simp_all

/-- Limp after a completion is limp before it unless it is left with CLASHED or LINE_DOWN (R124). -/
theorem joinOk_evaluated (h : joinOk s) : ((evaluated s m).budget.limp = true ↔
    s.line.joinDone = .clashed ∨ s.line.joinDone = .lineDown) ∧
    (s.arb.window ≠ none → s.line.joinDone.sending = true) := by
  obtain ⟨hlimp, hwin⟩ := h
  refine ⟨?_, fun hw => ?_⟩
  · cases hs : s.line.joinDone.sending with
    | true =>
      rw [evaluated_limp_of_sending hs]
      have hj : s.line.joinDone = .joining ∨ s.line.joinDone = .joined := by
        cases hd : s.line.joinDone <;> simp_all [JoinState.sending]
      rcases hj with hj | hj <;> simp [hj]
    | false =>
      rw [evaluated_budget_of_not_sending hs]
      by_cases hj : s.line.join = .clashed ∨ s.line.join = .lineDown
      · rcases joinDone_of_limping hj with ⟨hd, hleave⟩ | ⟨hd, hleave⟩ <;> simp [hd, hleave, hlimp.2 hj]
      · obtain ⟨hd, hleave⟩ := joinDone_of_not_limping hj
        rw [hleave, if_neg (by simp), hlimp]
        exact iff_of_false hj hd
  · have hs := hwin hw
    cases hj : s.line.join <;> simp_all [Line.joinDone, JoinState.sending]

/-- A station in limp after a completion was in limp before, with the same grants, and holds no window (R124, R144). -/
theorem evaluated_of_limp (h : joinOk s) (hl : (evaluated s m).budget.limp = true) :
    s.line.joinDone.sending = false ∧ (evaluated s m).budget = s.budget ∧ s.arb.window = none := by
  obtain ⟨hlimp, hwin⟩ := joinOk_evaluated (m := m) h
  have hs : s.line.joinDone.sending = false := by
    rcases hlimp.1 hl with hj | hj <;> simp [hj, JoinState.sending]
  refine ⟨hs, ?_, ?_⟩
  · rw [evaluated_budget_of_not_sending hs] at hl ⊢
    split
    · rename_i hleave
      rw [if_pos hleave] at hl
      simp at hl
    · rfl
  · by_contra hw
    simpa [hs] using hwin hw

/-- A window held after a completion is one of a sending station (R144). -/
theorem sending_of_window (h : joinOk s) (hw : (acted s m).arb.window ≠ none) :
    s.line.joinDone.sending = true ∧ ((evaluated s m).arb.window ≠ none ∨ s.contends = true) := by
  obtain ⟨hst, -, -, harb, -⟩ := evaluated_frame s m
  obtain ⟨-, -, -, -, hact, -⟩ := acted_frame s m
  obtain ⟨-, hwin⟩ := joinOk_evaluated (m := m) h
  rw [hact] at hw
  rcases arbAct_window_ne hw with hb | hmay
  · exact ⟨hwin (by rw [← harb]; exact hb), .inl hb⟩
  · obtain ⟨hc, -, -, hj⟩ := mayTake_iff.1 hmay
    exact ⟨hj, .inr (by rw [← contends_congr hst]; exact hc)⟩

theorem joinOk_acted (h : joinOk s) : joinOk (acted s m) := by
  obtain ⟨-, hjoin, hbud, -⟩ := acted_frame s m
  obtain ⟨hlimp, -⟩ := joinOk_evaluated (m := m) h
  refine ⟨by rw [hjoin, hbud]; exact hlimp, fun hw => ?_⟩
  obtain ⟨hs, -⟩ := sending_of_window h hw
  rw [hjoin]
  exact hs

end Joins

section Draw

variable {s : State} {m : Mode}

theorem recOk_flags {w : Prop} {c : Ceil} (h : recOk w c) (a b : Bool) :
    recOk w { c with limpCut := a, regenOk := b } := h

/-- The ceiling unit keeps the record well formed and within the grant that the completion leaves (R129, R133). -/
theorem ceilMoved_ok {u : State} {r : RoundRecord} (hrec : recOk (u.arb.window ≠ none) u.ceil)
    (hnone : u.budget.limp = true → u.arb.window = none)
    (hle : u.budget.limp = true → u.ceil.ceiling ≤ u.ownGrant) :
    recOk ((u.arbAct r).window ≠ none) (ceilMoved u r) ∧ (ceilMoved u r).ceiling ≤ u.ownGrant := by
  unfold ceilMoved
  cases hl : u.budget.limp with
  | true =>
    have hany : recOk ((u.arbAct r).window ≠ none) u.ceil :=
      ceilOk_congr (a := u.arb) (a' := { u.arb with window := (u.arbAct r).window })
        (fun hw => absurd (hnone hl) hw) rfl rfl rfl hrec
    rw [if_pos rfl]
    split
    · exact ⟨cutCase_ok _ _, Nat.zero_le _⟩
    · exact ⟨recOk_flags hany _ _, hle hl⟩
  | false =>
    rw [if_neg (by simp)]
    have hmove := arbAct_move u r
    refine act_ok _ _ _ _ _ _ _ _ hrec ?_ ?_
    · generalize (u.arbAct r).window = w', (u.arbAct r).event = e, u.arb.window = w at hmove
      cases hmove <;> simp [WindowEvent.isTaken]
    · generalize (u.arbAct r).window = w', (u.arbAct r).event = e, u.arb.window = w at hmove
      cases hmove <;> simp [WindowEvent.isEnded, WindowEvent.isAbandoned]

/-- The feeder unit keeps the records in order (R154, R157). -/
theorem feedOk_actUpdate {u : State} {r : RoundRecord} (ha : u.isAux = true) (hl : u.budget.limp = false)
    (h : feedOk u.arb u.feed) : feedOk (arbActed u r) (u.actUpdate r).feed := by
  obtain ⟨-, -, -, -, -, hfeed, -⟩ := ceilingActed_frame u r
  have hwin : feedOk (arbActed u r) (windowMoved u r).feed :=
    feedOk_feederWindow (a := u.arb) (by rw [hfeed]; exact h) (arbAct_move u r)
  rw [actUpdate_feed ha hl]
  refine feedOk_shedToGrant _ _ _ ?_
  unfold cutActed
  split
  · obtain ⟨hrec, -⟩ := comfortCut_ok (n := r.stamp) hwin
    exact hrec
  · exact hwin

theorem drawOk_acted (h : drawOk s) : drawOk (acted s m) := by
  obtain ⟨hj, hc, hf, hle, hsum, -, -, hnone⟩ := id h
  obtain ⟨hst, -, hceil, harb, hfeed, hset, -, -, -⟩ := evaluated_frame s m
  obtain ⟨hast, -, -, -, hact, hown⟩ := acted_frame s m
  have hlimped := fun hl : (evaluated s m).budget.limp = true => evaluated_of_limp hj hl
  have hgrant : (evaluated s m).budget.limp = true → (evaluated s m).ownGrant = s.ownGrant := fun hl => by
    obtain ⟨-, hbud, -⟩ := hlimped hl
    exact ownGrant_congr _ _ hst (by rw [hbud])
  have hquiet : (evaluated s m).budget.limp = true → (acted s m).arb.window = none := fun hl => by
    by_contra hw
    obtain ⟨hs, -⟩ := sending_of_window hj hw
    obtain ⟨hns, -⟩ := hlimped hl
    simp [hs] at hns
  refine drawOk_of_units h hast (joinOk_acted hj) (fun hh => ?_) (fun hh => ?_) (fun ha => ?_) (fun ha => ?_)
    (fun hh => ?_)
  · have hmoved : recOk _ (ceilMoved (evaluated s m) (recordRead s)) ∧ _ ≤ _ :=
      ceilMoved_ok (u := evaluated s m) (r := recordRead s) (by rw [harb, hceil]; exact hc)
        (fun hl => by rw [harb]; obtain ⟨-, -, hno⟩ := hlimped hl; exact hno)
        (fun hl => by rw [hceil, hgrant hl]; exact hle hh)
    rw [hact, hown, acted, actUpdate_ceil (by rw [hasCeiling_congr hst, hh])]
    obtain ⟨hrec, hbound⟩ := hmoved
    exact ⟨hrec, hbound⟩
  · rw [acted, actUpdate_ceil_of_not (by rw [hasCeiling_congr hst, hh]), hceil]
    exact ⟨rfl, rfl⟩
  · have haux : (evaluated s m).isAux = true := by rw [isAux_congr hst, ha]
    rw [hown]
    cases hl : (evaluated s m).budget.limp with
    | true =>
      obtain ⟨-, -, hno⟩ := hlimped hl
      have hsame : (acted s m).feed = s.feed := by rw [acted, actUpdate_feed_of_limp hl, hfeed]
      rw [hsame, energizedSum_congr hsame (by simp [acted, hset]), hgrant hl]
      exact ⟨feedOk_of_no_window hno hf, hsum ha⟩
    | false =>
      rw [hact]
      exact ⟨feedOk_actUpdate haux hl (by rw [harb, hfeed]; exact hf), actUpdate_sum haux hl⟩
  · rw [acted, actUpdate_feed_of_not_aux (by rw [isAux_congr hst, ha]), hfeed]
  · by_contra hw
    obtain ⟨-, hheld⟩ := sending_of_window hj hw
    rw [harb] at hheld
    rcases hheld with hb | hc'
    · exact hb (hnone hh)
    · simp [hh] at hc'

theorem drawOk_complete (h : drawOk s) : drawOk (s.complete m) := by
  rw [complete_eq]
  exact drawOk_calmRun (drawOk_acted h) (layoverStep_run _ _)

theorem drawOk_event {t : State} (h : drawOk s) (hset : settingsOk s.port.settings) (he : Event s t) : drawOk t := by
  rcases he with hr | ⟨u, hk, ht⟩ | ⟨u, n, hk, -, ht⟩
  · exact drawOk_calmRun h hr
  · rw [ht]
    exact drawOk_startFrame (drawOk_of_kept h hk) (by rw [hk.settings]; exact hset)
  · rw [ht]
    exact drawOk_complete (drawOk_of_kept h hk)

end Draw

/-- Settles O57: every step is a power-on, a chain of calm moves, a start frame event or a completion, and each keeps
the draw. -/
theorem everyStepKeepsTheDraw : Obligations.EveryStepKeepsTheDraw := by
  intro s t hstep hset h
  rcases step_event hstep with ⟨st, p, q, rfl⟩ | he
  · exact drawOk_powerOn st p q
  · exact drawOk_event h hset he

end Sys2Proof.Proofs

/-! # The restart window's promise (R144, R145, R147) and the ceiling that leaves 0 (R129, R133) -/

namespace Sys2Proof.Proofs

open Sys2Proof.Machine Sys2Proof.Laws

section Promise

variable {s t : State}

/-- The two invariants of the window together (R122, R144, R145, R147). -/
def promiseOk (s : State) : Prop := joinOk s ∧ windowOk s

/-- What the promise reads is kept, or the window is gone. -/
theorem promiseOk_of_kept (h : promiseOk s) (hl : LineQuiet s.line t.line) (hlimp : t.budget.limp = s.budget.limp)
    (hw : t.arb.window ≠ none → s.arb.window ≠ none) (hv : t.view = s.view) : promiseOk t := by
  obtain ⟨⟨hlim, hsend⟩, hwin⟩ := h
  obtain ⟨hjoin, himage, hround⟩ := hl
  refine ⟨⟨by rw [hlimp, hjoin]; exact hlim, fun ht => by rw [hjoin]; exact hsend (hw ht)⟩, fun ht => ?_⟩
  obtain ⟨hlast, hin⟩ := hwin (hw ht)
  rw [hv, himage]
  exact ⟨hlast, fun hr => hin (hround hr)⟩

/-- With no window held there is nothing promised. -/
theorem promiseOk_of_no_window (hw : t.arb.window = none)
    (hl : t.budget.limp = true ↔ t.line.join = .clashed ∨ t.line.join = .lineDown) : promiseOk t :=
  ⟨⟨hl, fun h => absurd hw h⟩, fun h => absurd hw h⟩

theorem promiseOk_enterLimp {u : State} (hj : u.line.join = .clashed ∨ u.line.join = .lineDown) :
    promiseOk u.enterLimp :=
  promiseOk_of_no_window (by simp) (by simp [enterLimp_budget, limpSet, hj])

theorem window_none_of_asleep (h : joinOk s) (hj : s.line.join = .asleep) : s.arb.window = none := by
  obtain ⟨-, hwin⟩ := h
  by_contra hw
  simpa [hj, JoinState.sending] using hwin hw

theorem checkCurrent_limp (i : Nat) : (s.checkCurrent i).budget.limp = s.budget.limp := by
  obtain ⟨hv, -⟩ := vehicleCheck_kept s.budget s.port.settings i
  obtain ⟨hm, -⟩ := moveCounts_kept s.budget s.port.settings.ownMargin s.ownGrant i
  unfold State.checkCurrent
  split
  · exact hv
  · split
    · dsimp only
      split
      · rw [trip_budget]
        exact hm
      · exact (backWithin_kept _).1.trans hm
    · rfl

theorem overdrawCheck_limp (r : Raw) : (s.overdrawCheck r).budget.limp = s.budget.limp := by
  unfold State.overdrawCheck
  split
  · exact checkCurrent_limp _
  · rfl

/-- A mask ends the window or leaves it (R148). -/
theorem feederMaskCmd_window (m : Byte) (h : (s.feederMaskCmd m).arb.window ≠ none) : s.arb.window ≠ none := by
  cases ha : s.isAux with
  | false => rw [feederMaskCmd_of_not_aux ha] at h; exact h
  | true =>
    rw [feederMaskCmd_arb ha] at h
    split at h
    · exact absurd rfl h
    · exact h

/-- Every calm move keeps the promise. -/
theorem promiseOk_calm (h : promiseOk s) (hc : Calm s t) : promiseOk t := by
  cases hc with
  | kept _ hk => exact promiseOk_of_kept h hk.line hk.limp (by rw [hk.window]; exact id) hk.view
  | lineDown c v n => exact promiseOk_enterLimp (.inr rfl)
  | clashed k => exact promiseOk_enterLimp (.inl rfl)
  | asleep =>
    exact promiseOk_of_no_window (by rw [fallAsleep_arb])
      (by rw [fallAsleep_budget, fallAsleep_join]; simp [Budget.cleared])
  | wake own hj =>
    obtain ⟨hjoin, -⟩ := h
    have hnone := window_none_of_asleep hjoin hj
    obtain ⟨hlimp, -⟩ := hjoin
    have hlisten : (s.wake own).line.join = .listen := by rw [wake_line]; rfl
    exact promiseOk_of_no_window (by simpa using hnone) (by simp [hlimp, hj, hlisten])
  | reset =>
    exact promiseOk_of_no_window (by rw [resetAwake_arb])
      (by rw [resetAwake_budget, resetAwake_line]; simp [Budget.cleared, Line.stationReset, Line.reset])
  | overdraw r => exact promiseOk_of_kept h (by simp [LineQuiet.refl]) (overdrawCheck_limp r) (by simp) (by simp)
  | eCut n => exact promiseOk_of_kept h (by simp [LineQuiet.refl]) (by simp) (by simp) (by simp)
  | cfgWrite item v => exact promiseOk_of_kept h (by simp [LineQuiet.refl]) (by simp) (by simp) (by simp)
  | demand v => exact promiseOk_of_kept h (by simp [LineQuiet.refl]) (by simp) (by simp) (by simp)
  | feederMask m =>
    exact promiseOk_of_kept h (by simp [LineQuiet.refl]) (by simp) (feederMaskCmd_window m) (by simp)

theorem promiseOk_calmRun (h : promiseOk s) (hr : CalmRun s t) : promiseOk t := by
  induction hr with
  | refl => exact h
  | tail _ hc ih => exact promiseOk_calm ih hc

theorem limpAtStart_limp : s.limpAtStart.budget.limp = s.budget.limp := by
  cases hl : s.budget.limp with
  | false => rw [limpAtStart_of_not hl, hl]
  | true => rw [limpAtStart_budget hl]; rfl

/-- The start frame event latches INRUSH with a window held (R28, R145). -/
theorem startFrame_inrush (h : joinOk s) (hw : s.arb.window ≠ none) :
    s.startFrame.line.image.marks.inrush = true := by
  obtain ⟨-, hwin⟩ := h
  have hsend := hwin hw
  have hjoin : s.joinAtStart = s.line.join := joinAtStart_of_not_listen fun hl => by
    simp [hl, JoinState.sending] at hsend
  have himage : s.startFrame.line.image = (s.setLine { s.line with join := s.joinAtStart }).imageNow := by
    rw [startFrame_line]
    rfl
  rw [himage, imageNow_of_sending (by rw [hjoin]; exact hsend)]
  exact Option.isSome_iff_ne_none.2 hw

theorem promiseOk_startFrame (h : promiseOk s) : promiseOk s.startFrame := by
  obtain ⟨hj, hw⟩ := h
  obtain ⟨x, hx⟩ := captureB_eq (startBase s).limpAtStart
  have hbase := joinOk_startBase hj
  have harb : s.startFrame.arb.window = s.arb.window := by
    rw [startFrame_eq, hx, State.setScan_arb, limpAtStart_arb, startBase_arb]
  refine ⟨?_, fun hwin => ?_⟩
  · rw [startFrame_eq, hx]
    refine joinOk_congr (s := startBase s) ?_ ?_ ?_ hbase
    · simp
    · rw [State.setScan_budget, limpAtStart_limp]
    · simp
  · rw [harb] at hwin
    obtain ⟨hlast, -⟩ := hw hwin
    exact ⟨by simpa using hlast, fun _ => startFrame_inrush hj hwin⟩

/-- A window held after a completed round was not abandoned by it (R145 to R147). -/
theorem acted_not_abandoned {m : Mode} (h : promiseOk s) (hp : s.line.phase = .stop)
    (hw : (acted s m).arb.window ≠ none) : (recordRead s).marks.abandons = false := by
  obtain ⟨-, -, -, harb, -⟩ := evaluated_frame s m
  obtain ⟨-, -, -, -, hact, -⟩ := acted_frame s m
  obtain ⟨-, hwin⟩ := h
  rw [hact] at hw
  replace hw : ((evaluated s m).arbAct (recordRead s)).window ≠ none := hw
  unfold State.arbAct at hw
  rw [harb] at hw
  split at hw
  · rename_i x hx
    obtain ⟨-, hin⟩ := hwin (by simp [hx])
    have hsent : (recordRead s).asserted.inrush = true := hin (.inr (.inl hp))
    cases hab : (recordRead s).marks.abandons with
    | false => rfl
    | true => simp [heldAct, hsent, hab] at hw
  · split at hw
    · rename_i hmay
      obtain ⟨-, -, hclean, -⟩ := mayTake_iff.1 hmay
      simp only [Marks.clean, Bool.and_eq_true, Bool.not_eq_true'] at hclean
      exact hclean.2
    · exact absurd rfl hw

theorem acted_phase (m : Mode) : (acted s m).line.phase = .recovery := by
  simp [acted, evaluated, evalUpdate_line, lineComplete_line, Line.complete]

theorem promiseOk_complete (m : Mode) (h : promiseOk s) (hp : s.line.phase = .stop) : promiseOk (s.complete m) := by
  obtain ⟨hj, -⟩ := id h
  obtain ⟨-, -, -, hview, -⟩ := acted_frame s m
  have hacted : promiseOk (acted s m) := by
    refine ⟨joinOk_acted hj, fun hw => ⟨⟨_, ?_, acted_not_abandoned h hp hw⟩, fun hr => ?_⟩⟩
    · rw [hview]
      rfl
    · simp [Line.inRound, acted_phase] at hr
  rw [complete_eq]
  exact promiseOk_calmRun hacted (layoverStep_run _ _)

theorem promiseOk_event (h : promiseOk s) (he : Event s t) : promiseOk t := by
  rcases he with hr | ⟨u, hk, ht⟩ | ⟨u, n, hk, hp, ht⟩
  · exact promiseOk_calmRun h hr
  · rw [ht]
    exact promiseOk_startFrame (promiseOk_calm h (.kept u hk))
  · rw [ht]
    exact promiseOk_complete n (promiseOk_calm h (.kept u hk)) hp

end Promise

/-- Settles O58: the window is taken at a completion with a clean round, its INRUSH is latched at every start frame
event, and every other event keeps or drops it. -/
theorem everyStepKeepsTheWindow : Obligations.EveryStepKeepsTheWindow := by
  intro s t hstep _ hj hw
  rcases step_event hstep with ⟨st, p, q, rfl⟩ | he
  · exact promiseOk_of_no_window (by simp [State.reset, Arbiter.reset]) (by simp [State.reset, Budget.reset, Line.reset])
  · exact promiseOk_event ⟨hj, hw⟩ he

section Zero

variable {s t : State}

theorem limpEntry_zero {c : Ceil} {d g : Nat} {cut : Bool} (h : c.ceiling = 0) :
    (c.limpEntry d g cut).ceiling = 0 := by
  unfold Ceil.limpEntry
  dsimp only
  split
  · rfl
  · split
    · split
      · rfl
      · simp [h]
    · rw [if_neg (by simp [h])]
      exact h
    · exact h
    · exact h

theorem enterLimp_zero (h : s.ceil.ceiling = 0) : s.enterLimp.ceil.ceiling = 0 := by
  cases hh : s.hasCeiling with
  | true => rw [enterLimp_ceil hh]; exact limpEntry_zero h
  | false => rw [enterLimp_ceil_of_not hh]; exact h

theorem ceilingCutNow_zero (h : s.ceil.ceiling = 0) : s.ceilingCutNow.ceil.ceiling = 0 := by
  cases hh : s.hasCeiling with
  | true => rw [ceilingCutNow_ceil hh]; rfl
  | false => rw [ceilingCutNow_of_not_ceiling hh]; exact h

theorem trip_zero (h : s.ceil.ceiling = 0) : s.trip.ceil.ceiling = 0 := by
  cases hh : s.hasCeiling with
  | true => rw [trip_ceil hh]; rfl
  | false => rw [trip_ceil_of_not_ceiling hh]; exact h

theorem overdrawCheck_zero (r : Raw) (h : s.ceil.ceiling = 0) : (s.overdrawCheck r).ceil.ceiling = 0 := by
  unfold State.overdrawCheck
  split
  · unfold State.checkCurrent
    split
    · exact h
    · split
      · dsimp only
        split
        · exact trip_zero h
        · exact h
      · exact h
  · exact h

theorem demandCmd_zero (v : BitVec 16) (h : s.ceil.ceiling = 0) : (s.demandCmd v).ceil.ceiling = 0 := by
  have hmove : ∀ (c : Ceil) d g, (c.demandMove d g).ceiling = c.ceiling := fun c d g => by
    unfold Ceil.demandMove
    split
    · rfl
    · split <;> rfl
  unfold State.demandCmd
  split
  · rw [putCeil_ceil, hmove]
    exact h
  · exact h

/-- A ceiling cleared, or kept where there is no ceiling unit (R139). -/
theorem cleared_zero {c : Ceil} {b e : Bool} (hc : c.ceiling = 0) :
    (if b then Ceil.clearedAt e else c).ceiling = 0 := by
  split
  · rfl
  · exact hc

/-- No calm move raises a ceiling from 0. -/
theorem calm_zero (h : s.ceil.ceiling = 0) (hc : Calm s t) : t.ceil.ceiling = 0 := by
  cases hc with
  | kept _ hk => rw [hk.ceil]; exact h
  | lineDown c v n =>
    have hbase := (limpSame_downBase s c v n).ceil
    rw [enterLineDown_eq]
    exact enterLimp_zero (by rw [hbase]; exact h)
  | clashed k => exact enterLimp_zero h
  | asleep => rw [fallAsleep_ceil]; exact cleared_zero h
  | wake own _ => rw [wake_ceil]; exact cleared_zero h
  | reset => rw [resetAwake_ceil]; exact cleared_zero h
  | overdraw r => exact overdrawCheck_zero r h
  | eCut n => simpa using ceilingCutNow_zero h
  | cfgWrite item v => simpa using h
  | demand v => exact demandCmd_zero v h
  | feederMask m => simpa using h

theorem calmRun_zero (h : s.ceil.ceiling = 0) (hr : CalmRun s t) : t.ceil.ceiling = 0 := by
  induction hr with
  | refl => exact h
  | tail _ hc ih => exact calm_zero ih hc

/-- A start frame event raises a ceiling from 0 in limp only (R133). -/
theorem startFrame_zero (h : s.ceil.ceiling = 0) (hl : s.budget.limp = false) : s.startFrame.ceil.ceiling = 0 := by
  obtain ⟨-, -, -, -, hceil, -, -, -, -, -, hbud⟩ := startBase_frame (s := s)
  obtain ⟨x, hx⟩ := captureB_eq (startBase s).limpAtStart
  rw [startFrame_eq, hx, State.setScan_ceil, limpAtStart_of_not (by rw [hbud]; exact hl), hceil]
  exact h

/-- A view update raises a ceiling from 0 only where it is RAMPING or takes the window (R129). -/
theorem act_zero {c : Ceil} {d g step : Nat} {cut : Bool} {e : WindowEvent} (h : c.ceiling = 0)
    (hramp : c.st ≠ .ramping) (hrun : c.st ≠ .running) (he : e.isTaken = false) :
    (c.act d g step cut e).ceiling = 0 := by
  have htake : c.takeMove d g e = c := if_neg (by simp [he])
  have hmoving : c.st.moving = false := by simp [CeilState.moving, hramp, hrun]
  have hfit : (c.fitCase d g step cut e).ceiling = 0 := by
    unfold Ceil.fitCase
    split
    · rfl
    · split
      · rfl
      · rw [if_neg (by simp [h]), if_neg (by simp [hmoving])]
        rfl
  rw [Ceil.act, htake]
  unfold Ceil.endMove
  split <;> exact hfit

/-- A completion raises a ceiling from 0 only with a window held before or after it (R129, R130). -/
theorem acted_zero {m : Mode} (h : drawOk s) (hz : s.ceil.ceiling = 0) (hb : s.arb.window = none)
    (ha : (acted s m).arb.window = none) : (acted s m).ceil.ceiling = 0 := by
  obtain ⟨-, ⟨-, -, hrun, -, hramp⟩, -⟩ := h
  obtain ⟨hst, -, hceil, harb, -⟩ := evaluated_frame s m
  obtain ⟨-, -, -, -, hact, -⟩ := acted_frame s m
  cases hh : s.hasCeiling with
  | false =>
    rw [acted, actUpdate_ceil_of_not (by rw [hasCeiling_congr hst, hh]), hceil]
    exact hz
  | true =>
    rw [acted, actUpdate_ceil (by rw [hasCeiling_congr hst, hh])]
    change (ceilMoved (evaluated s m) (recordRead s)).ceiling = 0
    unfold ceilMoved
    rw [hceil]
    split
    · split
      · rfl
      · exact hz
    · have hmove := arbAct_move (evaluated s m) (recordRead s)
      rw [hact] at ha
      replace ha : ((evaluated s m).arbAct (recordRead s)).window = none := ha
      rw [harb, hb, ha] at hmove
      refine act_zero hz (fun hr => hramp hr hb) (fun hr => by have := hrun hr; omega) ?_
      generalize ((evaluated s m).arbAct (recordRead s)).event = e at hmove
      cases hmove
      rfl

/-- The layover step keeps all but the line engine, or takes the ceiling to 0 (R139, R178). -/
theorem layoverStep_zero {r : RoundRecord} (h : drawOk s) :
    (∃ l, s.layoverStep r = s.setLine l) ∨ (s.layoverStep r).ceil.ceiling = 0 := by
  have hheld : s.hasCeiling = false → s.ceil.ceiling = 0 := fun hh => by
    obtain ⟨-, ⟨hzero, -⟩, -, -, -, hst, -⟩ := h
    exact hzero (hst hh)
  unfold State.layoverStep
  dsimp only
  split
  · refine .inr ?_
    generalize hu : s.setLine _ = u
    have hfallen : u.fallAsleep.ceil.ceiling = 0 := by
      rw [fallAsleep_ceil]
      cases hh : u.hasCeiling with
      | true => rfl
      | false =>
        rw [← hu] at hh ⊢
        exact hheld hh
    unfold State.enterAsleep
    split
    · exact calm_zero hfallen (.wake true (fallAsleep_join u))
    · exact hfallen
  · exact .inl ⟨_, rfl⟩

theorem complete_zero {m : Mode} (h : drawOk s) (hz : s.ceil.ceiling = 0) (hb : s.arb.window = none)
    (ha : (s.complete m).arb.window = none) : (s.complete m).ceil.ceiling = 0 := by
  rw [complete_eq] at ha ⊢
  rcases layoverStep_zero (r := recordRead s) (drawOk_acted (m := m) h) with ⟨l, hl⟩ | hl
  · rw [hl, State.setLine_arb] at ha
    rw [hl, State.setLine_ceil]
    exact acted_zero h hz hb ha
  · exact hl

theorem event_zero (h : drawOk s) (hz : s.ceil.ceiling = 0) (hl : s.budget.limp = false) (hb : s.arb.window = none)
    (ha : t.arb.window = none) (he : Event s t) : t.ceil.ceiling = 0 := by
  rcases he with hr | ⟨u, hk, ht⟩ | ⟨u, n, hk, -, ht⟩
  · exact calmRun_zero hz hr
  · rw [ht]
    exact startFrame_zero (by rw [hk.ceil]; exact hz) (by rw [hk.limp]; exact hl)
  · rw [ht] at ha ⊢
    exact complete_zero (drawOk_of_kept h hk) (by rw [hk.ceil]; exact hz) (by rw [hk.window]; exact hb) ha

theorem powerOn_zero (st : Straps) (p : Pins) (q : List Instr) : (powerOnState st p q).ceil.ceiling = 0 := by
  rw [powerOnState_eq, scanStart_eq, State.setScan_ceil, clearCeil_ceil]
  exact cleared_zero rfl

end Zero

/-- Settles O59: without a window before or after, and out of limp, no event raises a ceiling from 0. -/
theorem ceilingLeavesZeroOnlyInAWindowOrLimp : Obligations.CeilingLeavesZeroOnlyInAWindowOrLimp := by
  intro s t hstep _ h hz hpos
  by_contra hno
  simp only [not_or, not_not] at hno
  obtain ⟨hb, ha, hclash, hdown⟩ := hno
  obtain ⟨⟨hlimp, -⟩, -⟩ := id h
  have hl : s.budget.limp = false := by
    by_contra hl
    simpa [hclash, hdown] using hlimp.1 (by simpa using hl)
  rcases step_event hstep with ⟨st, p, q, rfl⟩ | he
  · exact hpos.ne' (powerOn_zero st p q)
  · exact hpos.ne' (event_zero h hz hl hb ha he)

end Sys2Proof.Proofs

/-! # Edges: the slots, start frames, the stop frame, recovery (R2, R5 to R12, R14) -/

namespace Sys2Proof.Proofs

open Sys2Proof.Machine Sys2Proof.Laws

section Slots

variable {i : Instr} {p : Pins} {s : State}

theorem pressBeat_eq_false (h : s.line.phase = .slots → s.line.slotBeat % 3 ≠ 0) : s.line.pressBeat = false := by
  by_cases hp : s.line.phase = .slots
  · simp [Line.pressBeat, isPress, h hp]
  · simp [Line.pressBeat, hp]

/-- No end sample outside a press beat (R5). -/
theorem endSample_of_not_press (h : s.line.pressBeat = false) :
    s.endSample = s.setLine { s.line with pdLift := false } := by
  simp [State.endSample, h]

/-- An edge that ends no press beat (R2). -/
theorem fallingEdge_of_not_press (h : s.line.pressBeat = false) : s.fallingEdge =
    (s.setLine { s.line with driver := .lowHalf, pbDrv := true, pdLift := false }).edgeDrives := by
  have hpress : s.assertB.line.pressBeat = false := h
  rw [fallingEdge_eq (by simp [State.pressHigh, h]), endSample_of_not_press hpress]
  rfl

/-- The end sample of a press beat with no clash (R5, R30). -/
theorem endSample_read (hpress : s.line.pressBeat = true)
    (h : s.clashAt (slotOf s.line.slotBeat) (!s.pins.pdHigh) = false) : s.endSample =
    s.setLine ({ s.line with pdLift := s.line.pdDrv }.readSlot (slotOf s.line.slotBeat) (!s.pins.pdHigh)) := by
  have hclash : (s.setLine { s.line with pdLift := s.line.pdDrv }).clashAt (slotOf s.line.slotBeat)
      (!s.pins.pdHigh) = false := h
  rw [endSample_press hpress, State.slotEnd, State.setLine_pins, hclash]
  rfl

theorem inKeyField_slotOf (n : Nat) : inKeyField (n / 3) = decide (30 ≤ n ∧ n < 54) := by
  rw [inKeyField, ← Bool.decide_and]
  exact decide_eq_decide.2 (by omega)

theorem inCountField_slotOf (n : Nat) : inCountField (n / 3) = decide (54 ≤ n ∧ n < 102) := by
  rw [inCountField, ← Bool.decide_and]
  exact decide_eq_decide.2 (by omega)

end Slots

/-- Settles O7: a press beat reads its slot, and every edge in the slots counts the beat. -/
theorem beatInTheSlots : Obligations.BeatInTheSlots := by
  intro i p s hrow hph hdl hrb hsb
  rw [exec_edgeRow hrow]
  refine ⟨fun hrest => ?_, fun hpress hhigh hclash => ?_⟩
  · have hpress : (s.sense p).line.pressBeat = false := pressBeat_eq_false fun _ => hrest
    rw [fallingEdge_of_not_press hpress, edgeDrives_in_slots]
    · rfl
    all_goals assumption
  · have hbeat : s.line.pressBeat = true := by simp [Line.pressBeat, isPress, hph, hpress]
    have hstill : (s.sense p).pressHigh = false := by
      simpa [State.pressHigh, State.sense, hbeat] using hhigh
    have hcalm : (s.sense p).assertB.clashAt (slotOf s.line.slotBeat) (!p.pdHigh) = false := hclash
    rw [fallingEdge_eq hstill, endSample_read (s := (s.sense p).assertB) hbeat hcalm, edgeDrives_in_slots]
    · simp [State.setLine, State.assertB, State.sense, Line.readSlot, slotOf, inKeyField_slotOf,
        inCountField_slotOf]
    all_goals assumption

section Outside

variable {i : Instr} {p : Pins} {s : State}

/-- The line engine at an edge outside the slots, before a start: the low half begun, one own beat over, the recovery
beats counted (R2, R7, R11, R14). -/
def edgeLine (l : Line) : Line :=
  ({ l with driver := .lowHalf, pbDrv := true, pdLift := false } : Line).driveStep.recoveryStep

/-- Outside the slots no slot beat is counted (R6). -/
theorem edgeCounts_outside (h : s.line.phase ≠ .slots) :
    s.edgeCounts = s.setLine s.line.driveStep.recoveryStep := by
  have hphase : (s.setLine s.line.driveStep).line.phase ≠ .slots := h
  rw [State.edgeCounts, State.slotAdvance, if_neg hphase]
  rfl

theorem fallingEdge_outside (h : s.line.phase ≠ .slots) :
    s.fallingEdge = (s.setLine (edgeLine s.line)).startTest := by
  rw [fallingEdge_of_not_press (pressBeat_eq_false fun hp => absurd hp h), State.edgeDrives, edgeCounts_outside]
  · rfl
  · exact h

theorem fallingEdge_sensed (p : Pins) (h : s.line.phase ≠ .slots) :
    (s.sense p).fallingEdge = ((s.sense p).setLine (edgeLine s.line)).startTest :=
  fallingEdge_outside (s := s.sense p) h

theorem edgeLine_of_no_recovery {l : Line} (h : l.recBeat = 0) : edgeLine l =
    { l with
      driver := .lowHalf, pbDrv := true, pdLift := false, driveLeft := l.driveLeft - 1
      pdDrv := decide (1 < l.driveLeft) } := by
  simp [edgeLine, Line.driveStep, Line.recoveryStep, h]

theorem edgeLine_first_recovery {l : Line} (h : l.recBeat = 1) : edgeLine l =
    { l with
      driver := .lowHalf, pbDrv := true, pdLift := false, driveLeft := l.driveLeft - 1
      pdDrv := decide (1 < l.driveLeft), recBeat := 2 } := by
  simp [edgeLine, Line.driveStep, Line.recoveryStep, h]

/-- The end of the second recovery beat in CONTINUOUS mode (R14). -/
theorem edgeLine_continuous {l : Line} (h : l.recBeat = 2) (hd : l.driveLeft = 0) (hm : l.mode = .continuous) :
    edgeLine l = { l with
      driver := .lowHalf, pbDrv := true, pdLift := false, driveLeft := 4, pdDrv := true, recBeat := 0 } := by
  simp [edgeLine, Line.driveStep, Line.recoveryStep, Line.recoveryEnd, Line.drive, Config.startBeats, h, hd, hm]

/-- The end of the second recovery beat in QUIET mode (R14). -/
theorem edgeLine_quiet {l : Line} (h : l.recBeat = 2) (hd : l.driveLeft = 0) (hm : l.mode = .quiet) :
    edgeLine l = { l with
      driver := .lowHalf, pbDrv := true, pdLift := false, pdDrv := false, recBeat := 0
      phase := if l.phase = .recovery then .idle else l.phase } := by
  simp [edgeLine, Line.driveStep, Line.recoveryStep, Line.recoveryEnd, h, hd, hm]

theorem startTest_eq (s : State) : s.startTest = s.setLine { s.line with
    driveLeft := if s.mayStart then 4 else s.line.driveLeft
    pdDrv := s.mayStart || s.line.pdDrv } := by
  cases h : s.mayStart <;> simp [State.startTest, h, Line.drive, Config.startBeats, State.setLine]

theorem startTest_of_not (h : s.mayStart = false) : s.startTest = s := by
  simp [State.startTest, h]

/-- While a frame of its own or a recovery beat lasts, no start is made (R7). -/
theorem mayStart_of_busy (h : s.line.driveLeft ≠ 0 ∨ s.line.recBeat ≠ 0) : s.mayStart = false := by
  rcases h with h | h <;> simp [State.mayStart, h]

theorem mayStart_of_stop (h : s.line.phase = .stop) : s.mayStart = false := by
  simp [State.mayStart, h]

theorem mayStart_of_long_frame (h : s.line.phase = .frame) (hr : 4 ≤ s.line.lowRun) : s.mayStart = false := by
  simp [State.mayStart, h, Nat.not_le.2 hr]

/-- When a start is made with no frame of its own and no recovery beat running (R7, R9, R22). -/
theorem mayStart_eq (hd : s.line.driveLeft = 0) (hr : s.line.recBeat = 0) : s.mayStart =
    ((s.line.phase == .idle && s.line.lastMidHigh && s.startReason) ||
      (s.line.phase == .frame && decide (1 ≤ s.line.lowRun ∧ s.line.lowRun ≤ 3) &&
        (if s.line.join = .lineDown then s.startReasonBut else s.startReason)) ||
      (s.line.phase == .resync && s.line.join == .lineDown && s.line.lastMidHigh && s.line.keepaliveDue)) := by
  simp [State.mayStart, hd, hr, Bool.decide_and, Bool.and_assoc]

theorem mayStart_of_idle (hd : s.line.driveLeft = 0) (hr : s.line.recBeat = 0) (h : s.line.phase = .idle) :
    s.mayStart = (s.line.lastMidHigh && s.startReason) := by
  rw [Bool.eq_iff_iff, mayStart_eq hd hr, h]
  simp

theorem mayStart_of_first_low (hd : s.line.driveLeft = 0) (hr : s.line.recBeat = 0) (h : s.line.phase = .frame)
    (hrun : s.line.lowRun = 1) :
    s.mayStart = if s.line.join = .lineDown then s.startReasonBut else s.startReason := by
  rw [Bool.eq_iff_iff, mayStart_eq hd hr, h, hrun]
  simp

theorem exec_roundStart (h : s.line.edgeDue = true) (hd : (s.sense p).startDue = true) :
    exec (.roundStart p) s = .next (s.sense p).fallingEdge := by
  simp [exec, execRoundStart, State.onlyIf, h, hd]

theorem startDue_outside (h : s.line.phase ≠ .slots) :
    s.startDue = (s.setLine (edgeLine s.line)).mayStart := by
  have hpress : s.line.pressBeat = false := pressBeat_eq_false fun hp => absurd hp h
  have hpress' : s.assertB.line.pressBeat = false := hpress
  rw [State.startDue, endSample_of_not_press hpress', edgeCounts_outside, State.pressHigh, hpress]
  · rfl
  · exact h

theorem sending_iff {j : JoinState} : j.sending = true ↔ j = .joining ∨ j = .joined := by
  simp [JoinState.sending]

theorem bandChange_iff : s.bandChange = true ↔
    (s.line.join = .joining ∨ s.line.join = .joined) ∧ s.line.lastBand ≠ some s.bandNow := by
  rw [State.bandChange, Bool.and_eq_true, sending_iff, decide_eq_true_iff, ne_comm]

theorem markChange_iff : s.markChange = true ↔
    ((s.line.join = .joining ∨ s.line.join = .joined) ∧ s.line.lastMarks ≠ s.marksNow) ∨
      (¬(s.line.join = .joining ∨ s.line.join = .joined) ∧ s.line.lastMarks ≠ Marks.empty) := by
  rw [State.markChange, decide_eq_true_iff, ne_comm, State.wouldAssert, ← sending_iff]
  by_cases h : s.line.join.sending = true <;> simp [h]

theorem startReasonBut_iff : s.startReasonBut = true ↔
    s.line.wakeDue = true ∨ s.bandChange = true ∨ s.markChange = true := by
  simp [State.startReasonBut, or_assoc]

theorem startReason_iff : s.startReason = true ↔ s.line.keepaliveDue = true ∨ s.startReasonBut = true := by
  simp [State.startReason]

end Outside

/-- Settles O8: an edge outside the slots is the edge's line engine, and a start if one may be made. -/
theorem startFramesLastFourBeats : Obligations.StartFramesLastFourBeats := by
  refine ⟨fun i p s hdl hrb hph => ?_, fun i p s hrow hrb hone hrest => ?_, fun s => ⟨?_, ?_⟩⟩
  · intro u starts hrow
    have hstart : ((s.sense p).setLine (edgeLine s.line)).mayStart = starts := by
      rw [edgeLine_of_no_recovery hrb, mayStart_eq]
      · rfl
      · simp [hdl]
      · exact hrb
    have hexec : exec i s = .next (s.sense p).fallingEdge := by
      rcases hrow with hrow | ⟨rfl, hdue, hs⟩
      · exact exec_edgeRow hrow
      · exact exec_roundStart hdue ((startDue_outside (s := s.sense p) hph).trans (hstart.trans hs))
    have hedge := fallingEdge_sensed p hph
    rw [startTest_eq, hstart] at hedge
    rw [hexec, hedge]
    refine congrArg Host.Outcome.next ?_
    simp [State.setLine, State.sense, edgeLine_of_no_recovery hrb, hdl]
  · have hph : s.line.phase ≠ .slots := by
      rcases hrest with h | ⟨h, _⟩ | ⟨_, h⟩
      · simp [h]
      · simp [h]
      · exact h
    have hline := edgeLine_of_no_recovery hrb
    have hstill : ((s.sense p).setLine (edgeLine s.line)).mayStart = false := by
      rw [hline]
      rcases hrest with h | ⟨h, hr⟩ | ⟨h, _⟩
      · exact mayStart_of_stop h
      · exact mayStart_of_long_frame h hr
      · exact mayStart_of_busy (.inl (by simp; omega))
    have hedge := fallingEdge_sensed p hph
    rw [startTest_of_not hstill] at hedge
    rw [exec_edgeRow hrow, hedge]
    refine congrArg Host.Outcome.next ?_
    simp [State.setLine, State.sense, hline, Nat.succ_le_iff]
  · rw [startReasonBut_iff, bandChange_iff, markChange_iff]
  · rw [startReason_iff, startReasonBut_iff, bandChange_iff, markChange_iff]

section Stop

variable {i : Instr} {p : Pins} {s : State}

/-- The reasons to stretch a stop frame (R12). -/
theorem stretchReason_eq (s : State) : s.stretchReason =
    ((rxMarks s.line.rx).drop || (rxMarks s.line.rx).gap || (rxMarks s.line.rx).cut ||
      (rxMarks s.line.rx).inrush ||
      (s.line.image.band.isSome && decide (s.line.lastBand ≠ s.line.prevBand)) ||
      s.candidate || s.arb.window.isSome ||
      allEight.any (fun k => (s.view.entries.get k).st == .heardOnce) || s.startReason) := rfl

/-- The edge after the rest beat of slot 289 (R11). -/
theorem edgeDrives_at_stop (hp : s.line.phase = .slots) (hsb : s.line.slotBeat = 869)
    (hdl : s.line.driveLeft = 0) (hrb : s.line.recBeat = 0) :
    s.edgeDrives = s.setLine { s.line with
      phase := .stop, lowRun := 0, pdDrv := s.line.takesPart
      driveLeft := if s.line.takesPart then (if s.stretchReason then 3 else 2) else 0 } := by
  have hstop : (s.setLine s.line.driveStep).slotAdvance = s.setLine { s.line with
      phase := .stop, lowRun := 0, pdDrv := s.line.takesPart
      driveLeft := if s.line.takesPart then (if s.stretchReason then 3 else 2) else 0 } := by
    have hreason : (s.setLine s.line.driveStep).stretchReason = s.stretchReason := rfl
    cases ht : s.line.takesPart <;>
      simp [State.slotAdvance, Line.driveStep, hp, hsb, Config.lastSlotBeat, State.stopTest, ht, Line.drive, hdl,
        State.setLine]
    rfl
  rw [State.edgeDrives, State.edgeCounts, hstop, startTest_of_not]
  · simp [State.setLine, Line.recoveryStep, hrb]
  · exact mayStart_of_stop (by simp [Line.recoveryStep, hrb])

end Stop

/-- Settles O13: the edge after slot 289 drives by the stretch reasons. -/
theorem stopFrameIsTwoOrThreeBeats : Obligations.StopFrameIsTwoOrThreeBeats := by
  intro i p s hrow hph hsb hdl hrb u m reason
  have hexec : exec i s = .next (s.sense p).fallingEdge := by
    rcases hrow with hrow | ⟨rfl, hdue⟩
    · exact exec_edgeRow hrow
    · simp [exec, execStopFrameTest, State.onlyIf, hdue, Line.stopDue, hph, hsb, Config.lastSlotBeat]
  have hpress : (s.sense p).line.pressBeat = false := pressBeat_eq_false fun _ => by simp [State.sense, hsb]
  rw [hexec, fallingEdge_of_not_press hpress, edgeDrives_at_stop]
  · rfl
  all_goals assumption

section Recovery

variable {i : Instr} {p : Pins} {s : State}

/-- Every row that ends the second recovery beat is the falling edge (R14). -/
theorem exec_recoveryEndRow (hrow : edgeRow i p s ∨ (i = .recoveryEnd p ∧ s.line.edgeDue = true))
    (h : s.line.recBeat = 2) : exec i s = .next (s.sense p).fallingEdge := by
  rcases hrow with hrow | ⟨rfl, hdue⟩
  · exact exec_edgeRow hrow
  · simp [exec, execRecoveryEnd, State.onlyIf, hdue, h]

end Recovery

/-- Settles O14: the two recovery beats counted, and the mode's start at the end of the second. -/
theorem recoveryEndsByMode : Obligations.RecoveryEndsByMode := by
  intro i p s hdl
  refine ⟨fun hrow hrb hph => ?_, fun hrow hrb hph => ?_⟩
  · have hline := edgeLine_first_recovery hrb
    have hstill : ((s.sense p).setLine (edgeLine s.line)).mayStart = false :=
      mayStart_of_busy (.inr (by simp [hline]))
    have hedge := fallingEdge_sensed p (s := s) (by simp [hph])
    rw [startTest_of_not hstill] at hedge
    rw [exec_edgeRow hrow, hedge]
    refine congrArg Host.Outcome.next ?_
    simp [State.setLine, State.sense, hline, hdl]
  · intro u starts
    have hout : s.line.phase ≠ .slots := by
      rcases hph with h | ⟨h, _⟩ <;> simp [h]
    have hedge := fallingEdge_sensed p hout
    rw [exec_recoveryEndRow hrow hrb, hedge]
    refine congrArg Host.Outcome.next ?_
    cases hm : s.line.mode with
    | continuous =>
      have hline := edgeLine_continuous hrb hdl hm
      have hstill : ((s.sense p).setLine (edgeLine s.line)).mayStart = false :=
        mayStart_of_busy (.inl (by simp [hline]))
      have hstart : starts = true := by simp [starts, hm]
      have htest := startTest_of_not hstill
      refine htest.trans ?_
      simp [State.setLine, State.sense, hline, hstart]
    | quiet =>
      have hline := edgeLine_quiet hrb hdl hm
      have hstart : ((s.sense p).setLine (edgeLine s.line)).mayStart = starts := by
        rw [hline]
        rcases hph with h | ⟨h, hr⟩
        · refine (mayStart_of_idle (by exact hdl) (by rfl) (by simp [h])).trans ?_
          rw [Bool.eq_iff_iff]
          simp only [starts, hm, h, Bool.and_eq_true, Bool.or_eq_true, beq_self_eq_true, reduceCtorEq, beq_iff_eq,
            true_and, false_and, false_or, or_false]
          rfl
        · refine (mayStart_of_first_low (by exact hdl) (by rfl) (by simp [h]) (by exact hr)).trans ?_
          rw [Bool.eq_iff_iff]
          simp [starts, hm, h]
          rfl
      have htest := startTest_eq ((s.sense p).setLine (edgeLine s.line))
      rw [hstart] at htest
      refine htest.trans ?_
      simp [State.setLine, State.sense, hline, hdl]

end Sys2Proof.Proofs

/-! # Mid samples: runs counted, false starts, slot 0, RESYNC (R5, R8, R15, R182) -/

namespace Sys2Proof.Proofs

open Sys2Proof.Machine Sys2Proof.Laws

section Sample

variable {p : Pins} {s : State}

/-- The line engine after the rising edge with these levels (R2). -/
def riseLine (l : Line) (high : Bool) : Line :=
  { l with driver := .highHalf, pdLift := false, lastMidHigh := high }

theorem sense_pins (s : State) (p : Pins) : (s.sense p).pins = p := rfl

theorem riseB_sensed (p : Pins) (s : State) :
    (s.sense p).riseB = (s.sense p).setLine (riseLine s.line p.pdHigh) := rfl

/-- A mid sample that shows no frame of its own reading high (R20). -/
theorem exec_midSample_eq (hd : s.line.driver = .waitRise) (h : p.pdHigh = true → s.line.driveLeft = 0) :
    exec (.midSample p) s = .next ((s.sense p).setLine (riseLine s.line p.pdHigh)).samplePhase := by
  have hframe : (s.sense p).frameHigh = false := by
    cases hp : p.pdHigh with
    | false => exact frameHigh_of_low hp
    | true => exact frameHigh_of_still (h hp)
  rw [exec_midSample p hd, midSample_eq hframe, riseB_sensed]

theorem samplePhase_resync (h : s.line.phase = .resync) : s.samplePhase = s.midResync s.pins.pdHigh := by
  simp [State.samplePhase, h]

theorem samplePhase_idle (h : s.line.phase = .idle ∨ s.line.phase = .recovery) :
    s.samplePhase = s.midIdle s.pins.pdHigh := by
  rcases h with h | h <;> simp [State.samplePhase, h]

theorem samplePhase_frame (h : s.line.phase = .frame) : s.samplePhase = s.midFrame s.pins.pdHigh := by
  simp [State.samplePhase, h]

theorem samplePhase_slots (h : s.line.phase = .slots) : s.samplePhase = s.midSlots s.pins.pdHigh := by
  simp [State.samplePhase, h]

theorem samplePhase_stop (h : s.line.phase = .stop) : s.samplePhase = s.midStop s.pins.pdHigh := by
  simp [State.samplePhase, h]

/-- A low sample in a run that it brings neither to 4 nor to 9 (R8). -/
theorem countLow_counts (h3 : s.line.lowRun ≠ 3) (h8 : s.line.lowRun < 8) :
    s.countLow = s.setLine { s.line with lowRun := s.line.lowRun + 1, highRun := 0 } := by
  have h4 : s.line.lowRun + 1 ≠ Config.startBeats := by simp [Config.startBeats, h3]
  have h9 : s.line.lowRun + 1 ≠ Config.stuckRun := by simp only [Config.stuckRun]; omega
  have hlt : s.line.lowRun < Config.stuckRun := by simp only [Config.stuckRun]; omega
  rw [State.countLow, if_neg h4, if_neg h9, if_pos hlt]

/-- The press beat of slot 0 presses for the DROP mark (R5, R25). -/
theorem presses_zero (s : State) : s.presses 0 = (s.line.image.sends && s.line.image.marks.drop) := by
  simp [State.presses, Line.sendsAt, inKeyField, inCountField, Image.bitAt, Marks.slot]

theorem pressDrive_eq (s : State) : s.pressDrive = s.setLine { s.line with
    pdDrv := if s.line.slotBeat % 3 = 0 then
        s.line.sendsAt (s.line.slotBeat / 3) && s.line.image.bitAt s.straps.stn.val (s.line.slotBeat / 3)
      else s.line.pdDrv } := by
  by_cases h : s.line.slotBeat % 3 = 0
  · simp [State.pressDrive, isPress, h, State.presses, slotOf]
  · simp [State.pressDrive, isPress, h, State.setLine]

/-- A start run of 4 or more ended by a high sample opens slot 0 (R8). -/
theorem midFrame_opens (h : 4 ≤ s.line.lowRun) : s.midFrame true = s.setLine { s.line with
    phase := .slots, slotBeat := 0, lowRun := 0
    pdDrv := s.line.image.sends && s.line.image.marks.drop } := by
  have hlong : ¬s.line.lowRun < Config.startBeats := by simp only [Config.startBeats]; omega
  have hdrive := presses_zero (s.setLine { s.line with phase := .slots, slotBeat := 0, lowRun := 0 })
  simp only [State.midFrame, if_neg hlong, if_true]
  simp only [State.pressDrive, State.setLine_line, isPress, slotOf, Nat.zero_mod, Nat.zero_div, hdrive]
  rfl

theorem midFrame_false_start (h : s.line.lowRun < 4) :
    s.midFrame true = s.setLine { s.line with phase := .idle, lowRun := 0 } := by
  simp [State.midFrame, Config.startBeats, h]

theorem stopLow_counts (h : s.line.lowRun < 8) :
    s.stopLow = s.setLine { s.line with lowRun := s.line.lowRun + 1 } := by
  rw [State.stopLow, if_pos (by simp only [Config.stuckRun]; omega)]

end Sample

/-- Settles O9: each phase's mid sample, by the level it reads. -/
theorem midSampleCountsTheRun : Obligations.MidSampleCountsTheRun := by
  intro p s hd l
  refine ⟨fun hph => ⟨fun hp hdl => ?_, fun hp => ?_⟩,
    fun hph => ⟨fun hp h3 h8 => ?_, fun hp hdl h4 => ?_, fun hp hdl h4 => ?_⟩, fun hph hp hdl => ?_,
    fun hph hp h8 => ?_⟩
  · rw [exec_midSample_eq hd (fun _ => hdl), samplePhase_idle]
    · simp [State.midIdle, State.setLine, State.sense, riseLine, hp, l]
    · exact hph
  · rw [exec_midSample_eq hd (by simp [hp]), samplePhase_idle]
    · simp [State.midIdle, State.setLine, State.sense, riseLine, hp, l]
    · exact hph
  · rw [exec_midSample_eq hd (by simp [hp]), samplePhase_frame]
    · rw [State.midFrame, if_neg (by simp [State.sense, hp]), countLow_counts]
      · rfl
      · exact h3
      · exact h8
    · exact hph
  · rw [exec_midSample_eq hd (fun _ => hdl), samplePhase_frame]
    · rw [State.setLine_pins, sense_pins, hp, midFrame_false_start]
      · simp [State.setLine, State.sense, riseLine, l, hp]
      · exact h4
    · exact hph
  · rw [exec_midSample_eq hd (fun _ => hdl), samplePhase_frame]
    · rw [State.setLine_pins, sense_pins, hp, midFrame_opens]
      · simp [State.setLine, State.sense, riseLine, l, hp]
      · exact h4
    · exact hph
  · rw [exec_midSample_eq hd (fun _ => hdl), samplePhase_slots]
    · rw [State.setLine_pins, sense_pins, hp, State.midSlots, if_pos rfl, pressDrive_eq]
      simp [State.setLine, State.sense, riseLine, l, hp]
      rfl
    · exact hph
  · rw [exec_midSample_eq hd (by simp [hp]), samplePhase_stop]
    · rw [State.setLine_pins, sense_pins, hp, State.midStop, if_neg (by simp), stopLow_counts]
      · simp [State.setLine, State.sense, riseLine, l, hp]
      · exact h8
    · exact hph

section Resync

variable {i : Instr} {p : Pins} {s : State}

theorem resyncHigh_stop {l : Line} (h : l.lowRun = 2 ∨ l.lowRun = 3) : l.resyncHigh =
    { l with phase := .recovery, mode := modeOfRun l.lowRun, recBeat := 1, lowRun := 0, highRun := 0 } := by
  simp [Line.resyncHigh, h]

theorem resyncHigh_counts {l : Line} (h2 : l.lowRun ≠ 2) (h3 : l.lowRun ≠ 3) (h : l.highRun < 879) :
    l.resyncHigh = { l with lowRun := 0, highRun := l.highRun + 1 } := by
  rw [Line.resyncHigh, if_neg (by simp [h2, h3]), if_pos (by simp only [Config.idleSamples]; omega)]

theorem resyncHigh_idle {l : Line} (h2 : l.lowRun ≠ 2) (h3 : l.lowRun ≠ 3) (h : 879 ≤ l.highRun) :
    l.resyncHigh = { l with phase := .idle, mode := .quiet, lowRun := 0, highRun := 0 } := by
  rw [Line.resyncHigh, if_neg (by simp [h2, h3]), if_neg (by simp only [Config.idleSamples]; omega)]

/-- A high mid sample of RESYNC while it counts, as the row itself or as the row that names its outcome. -/
theorem exec_resyncHigh (hd : s.line.driver = .waitRise) (hph : s.line.phase = .resync) (hp : p.pdHigh = true)
    (hdl : s.line.driveLeft = 0) (hg : s.line.ignoreRun = false)
    (hi : i = .midSample p ∨ (i = .resyncStopFrame p ∧ (s.line.lowRun = 2 ∨ s.line.lowRun = 3)) ∨
      (i = .resyncIdle p ∧ s.line.lowRun ≠ 2 ∧ s.line.lowRun ≠ 3 ∧ 879 ≤ s.line.highRun)) :
    exec i s = .next ((s.sense p).setLine (riseLine s.line true).resyncHigh) := by
  have hsample : exec i s = exec (.midSample p) s := by
    rcases hi with rfl | ⟨rfl, hrun⟩ | ⟨rfl, h2, h3, hh⟩
    · rfl
    · simp [exec, execResyncStopFrame, execMidSample, State.onlyIf, Line.sampleDue, hd, hp, Line.resyncStop,
        Line.resyncCounts, hph, hg, hdl, hrun]
    · simp [exec, execResyncIdle, execMidSample, State.onlyIf, Line.sampleDue, hd, hp, Line.resyncIdleDue,
        Line.resyncCounts, hph, hg, hdl, h2, h3, Config.idleSamples]
      exact fun h => absurd hh (Nat.not_le.2 h)
  rw [hsample, exec_midSample_eq hd (fun _ => hdl), samplePhase_resync]
  · simp [State.midResync, State.sense, riseLine, hg, hp, State.setLine]
  · exact hph

/-- The high mid sample after a run that a line wake let be ignored (R182). -/
theorem exec_ignoredRunEnds (hd : s.line.driver = .waitRise) (hph : s.line.phase = .resync)
    (hp : p.pdHigh = true) (hdl : s.line.driveLeft = 0) (hg : s.line.ignoreRun = true) :
    exec (.midSample p) s =
      .next ((s.sense p).setLine { riseLine s.line true with ignoreRun := false, lowRun := 0 }.resyncHigh) := by
  rw [exec_midSample_eq hd (fun _ => hdl), samplePhase_resync]
  · simp [State.midResync, State.sense, riseLine, hg, hp, State.setLine]
  · exact hph

end Resync

/-- Settles O15: the samples of RESYNC, by level and run. -/
theorem resyncFindsTheRoundAgain : Obligations.ResyncFindsTheRoundAgain := by
  intro i p s hd hph l
  refine ⟨fun hp hdl hg => ⟨fun hi hrun => ?_, fun hi h2 h3 hh => ?_, fun hi h2 h3 hh => ?_⟩,
    fun hp hi hg h3 h8 => ?_, fun hp hi hg => ?_, fun hp hi hg hdl => ⟨fun hh => ?_, fun hh => ?_⟩⟩
  · rw [exec_resyncHigh hd hph hp hdl hg (hi.imp_right fun h => .inl ⟨h, hrun⟩), resyncHigh_stop]
    · rcases hrun with h | h <;> simp [State.setLine, State.sense, riseLine, l, hp, h, modeOfRun]
    · exact hrun
  · rw [exec_resyncHigh hd hph hp hdl hg (.inl hi), resyncHigh_counts (l := riseLine s.line true) h2 h3 hh]
    simp [State.setLine, State.sense, riseLine, l, hp]
  · rw [exec_resyncHigh hd hph hp hdl hg (hi.imp_right fun h => .inr ⟨h, h2, h3, hh⟩),
      resyncHigh_idle (l := riseLine s.line true) h2 h3 hh]
    simp [State.setLine, State.sense, riseLine, l, hp]
  · subst hi
    rw [exec_midSample_eq hd (by simp [hp]), samplePhase_resync]
    · rw [State.midResync, if_neg (by simp [riseLine, hg]), if_neg (by simp [State.sense, hp]), countLow_counts]
      · rfl
      · exact h3
      · exact h8
    · exact hph
  · subst hi
    rw [exec_midSample_eq hd (by simp [hp]), samplePhase_resync]
    · rw [State.midResync, if_pos (by simp [riseLine, hg]), if_neg (by simp [State.sense, hp])]
      rfl
    · exact hph
  · subst hi
    rw [exec_ignoredRunEnds hd hph hp hdl hg, resyncHigh_counts
      (l := { riseLine s.line true with ignoreRun := false, lowRun := 0 }) (by simp) (by simp) hh]
    simp [State.setLine, State.sense, riseLine, l, hp]
  · subst hi
    rw [exec_ignoredRunEnds hd hph hp hdl hg, resyncHigh_idle
      (l := { riseLine s.line true with ignoreRun := false, lowRun := 0 }) (by simp) (by simp) hh]
    simp [State.setLine, State.sense, riseLine, l, hp]

end Sys2Proof.Proofs

/-! # The slots of a round read back (R24 to R26, R31, R32) -/

namespace Sys2Proof.Proofs

open Sys2Proof.Machine Sys2Proof.Laws

section Bits

/-- A field cut out of a word: its bit j is the word's bit at the field's first place plus j. -/
theorem getMsbD_field {w : Nat} (v : BitVec w) (start len j : Nat) (hj : j < len) (h : start + len ≤ w) :
    (v.extractLsb' start len).getMsbD j = v.getMsbD (w - (start + len) + j) := by
  have hin : w - (start + len) + j < w := by omega
  have hpos : start + (len - 1 - j) = w - 1 - (w - (start + len) + j) := by omega
  have hlt : len - 1 - j < len := by omega
  simp [BitVec.getMsbD_eq_getLsbD, hj, hin, hlt, hpos]

theorem getLsbD_shiftIn_zero (rx : BitVec 290) (b : Bool) : (shiftIn rx b).getLsbD 0 = b := by
  simp [shiftIn]

theorem getLsbD_shiftIn_succ (rx : BitVec 290) (b : Bool) (k : Nat) (h : k < 289) :
    (shiftIn rx b).getLsbD (k + 1) = rx.getLsbD k := by
  have hk : k + 1 < 290 := by omega
  simp [shiftIn, hk, BitVec.getLsbD_eq_getElem (show k < 290 by omega)]

/-- The 32 slots of band n (R24). -/
def bandSlots (rx : BitVec 290) (n : Fin 8) : BitVec 32 := rx.extractLsb' (224 - 32 * n.val) 32

theorem rxBand_eq (rx : BitVec 290) (n : Fin 8) : rxBand rx n = bandOfBits (bandSlots rx n) := rfl

theorem getMsbD_bandSlots (rx : BitVec 290) (n : Fin 8) (j : Nat) (hj : j < 32) :
    (bandSlots rx n).getMsbD j = rx.getMsbD (34 + 32 * n.val + j) := by
  have hn := n.isLt
  rw [bandSlots, getMsbD_field _ _ _ _ hj (by omega)]
  congr 1
  omega

/-- Where the fields of a band stand (R26). -/
theorem bandOfBits_fields (v : BitVec 32) : (bandOfBits v).present = v.getMsbD 0 ∧
    (∀ j, j < 3 → (bandOfBits v).role.getMsbD j = v.getMsbD (1 + j)) ∧
    (bandOfBits v).unsettled = v.getMsbD 4 ∧
    (∀ j, j < 2 → (bandOfBits v).tier.getMsbD j = v.getMsbD (5 + j)) ∧
    (∀ j, j < 10 → (bandOfBits v).claim.getMsbD j = v.getMsbD (7 + j)) ∧
    (∀ j, j < 10 → (bandOfBits v).value.getMsbD j = v.getMsbD (17 + j)) ∧
    (bandOfBits v).alarms =
      ⟨v.getMsbD 27, v.getMsbD 28, v.getMsbD 29, v.getMsbD 30, v.getMsbD 31⟩ :=
  ⟨rfl, fun j hj => getMsbD_field v 28 3 j hj (by omega), rfl,
    fun j hj => getMsbD_field v 25 2 j hj (by omega), fun j hj => getMsbD_field v 15 10 j hj (by omega),
    fun j hj => getMsbD_field v 5 10 j hj (by omega), rfl⟩

/-- The bits of a band, field by field (R26). -/
theorem getMsbD_bits (b : Band) (k : Nat) (hk : k < 32) : b.bits.getMsbD k =
    if k < 1 then b.present
    else if k < 4 then b.role.getMsbD (k - 1)
    else if k < 5 then b.unsettled
    else if k < 7 then b.tier.getMsbD (k - 5)
    else if k < 17 then b.claim.getMsbD (k - 7)
    else if k < 27 then b.value.getMsbD (k - 17)
    else if k < 28 then b.alarms.k0
    else if k < 29 then b.alarms.k1
    else if k < 30 then b.alarms.k2
    else if k < 31 then b.alarms.k3
    else b.alarms.k4 := by
  simp only [Band.bits, BitVec.getMsbD_append]
  interval_cases k <;> simp [BitVec.getMsbD_eq_getLsbD]

/-- A band is what its 32 slots read as (R26). -/
theorem bandOfBits_bits (b : Band) : bandOfBits b.bits = b := by
  obtain ⟨hpresent, hrole, hunsettled, htier, hclaim, hvalue, halarms⟩ := bandOfBits_fields b.bits
  have hbool : (bandOfBits b.bits).present = b.present ∧ (bandOfBits b.bits).unsettled = b.unsettled ∧
      (bandOfBits b.bits).alarms = b.alarms := by
    rw [hpresent, hunsettled, halarms]
    simp [getMsbD_bits]
  have hrole' : (bandOfBits b.bits).role = b.role := BitVec.eq_of_getMsbD_eq fun j hj => by
    rw [hrole j hj, getMsbD_bits _ _ (by omega), if_neg (by omega), if_pos (by omega), Nat.add_sub_cancel_left]
  have htier' : (bandOfBits b.bits).tier = b.tier := BitVec.eq_of_getMsbD_eq fun j hj => by
    rw [htier j hj, getMsbD_bits _ _ (by omega)]
    interval_cases j <;> simp
  have hclaim' : (bandOfBits b.bits).claim = b.claim := BitVec.eq_of_getMsbD_eq fun j hj => by
    rw [hclaim j hj, getMsbD_bits _ _ (by omega)]
    interval_cases j <;> simp
  have hvalue' : (bandOfBits b.bits).value = b.value := BitVec.eq_of_getMsbD_eq fun j hj => by
    rw [hvalue j hj, getMsbD_bits _ _ (by omega)]
    interval_cases j <;> simp
  obtain ⟨hpresent', hunsettled', halarms'⟩ := hbool
  generalize bandOfBits b.bits = c at *
  cases c
  cases b
  simp_all

/-- The ten marks from their ten slots (R24, R25). -/
theorem rxMarks_eq (rx : BitVec 290) : rxMarks rx =
    { drop := rx.getMsbD 0, gap := rx.getMsbD 1, offWire := rx.getMsbD 2, regenBar := rx.getMsbD 3
      ack := rx.getMsbD 4, lower := rx.getMsbD 5, cut := rx.getMsbD 6, hold := rx.getMsbD 7
      inrush := rx.getMsbD 8, layover := rx.getMsbD 9 } := by
  simp [rxMarks, marksOfBits]

theorem getMsbD_rxKey (rx : BitVec 290) (j : Nat) (hj : j < 8) : (rxKey rx).getMsbD j = rx.getMsbD (10 + j) :=
  getMsbD_field rx 272 8 j hj (by omega)

theorem getMsbD_rxCount (rx : BitVec 290) (j : Nat) (hj : j < 16) : (rxCount rx).getMsbD j = rx.getMsbD (18 + j) :=
  getMsbD_field rx 256 16 j hj (by omega)

end Bits

section Image

variable {im : Image} {n : Nat}

theorem bitAt_key (j : Nat) (hj : j < 8) : im.bitAt n (10 + j) = im.key.getMsbD j := by
  rw [Image.bitAt, if_neg (by omega), if_pos (by omega), Nat.add_sub_cancel_left]

theorem bitAt_count (j : Nat) (hj : j < 16) : im.bitAt n (18 + j) = im.count.getMsbD j := by
  rw [Image.bitAt, if_neg (by omega), if_neg (by omega), if_pos (by omega), Nat.add_sub_cancel_left]

/-- The slots of the own band carry the band's bits (R26). -/
theorem bitAt_band {b : Band} (h : im.band = some b) (j : Nat) (hj : j < 32) :
    im.bitAt n (34 + 32 * n + j) = b.bits.getMsbD j := by
  have hin : inBand n (34 + 32 * n + j) = true := by
    rw [inBand, Bool.and_eq_true, decide_eq_true_iff, decide_eq_true_iff]
    omega
  rw [Image.bitAt, if_neg (by omega), if_neg (by omega), if_neg (by omega), if_pos hin, h]
  simp only [Nat.add_sub_cancel_left]

/-- The slots of another station's band carry 0 (R28). -/
theorem bitAt_other {m : Nat} (h : m ≠ n) : im.bitAt n (34 + 32 * m) = false := by
  have hout : ¬inBand n (34 + 32 * m) = true := by
    rw [inBand, Bool.and_eq_true, decide_eq_true_iff, decide_eq_true_iff]
    omega
  rw [Image.bitAt, if_neg (by omega), if_neg (by omega), if_neg (by omega), if_neg hout]

/-- What a station sends, read back slot by slot (R24 to R26, R31, R32). -/
theorem image_readBack {b : Band} {m : Fin 8} {rx : BitVec 290} (hb : im.band = some b)
    (h : ∀ slot, slot < 290 → rx.getMsbD slot = im.bitAt m.val slot) :
    rxMarks rx = im.marks ∧ rxKey rx = im.key ∧ rxCount rx = im.count ∧ rxBand rx m = b ∧
      ∀ k, k ≠ m → (rxBand rx k).present = false := by
  have hm := m.isLt
  refine ⟨?_, ?_, ?_, ?_, fun k hk => ?_⟩
  · simp [rxMarks_eq, h, Image.bitAt, Marks.slot]
  · refine BitVec.eq_of_getMsbD_eq fun j hj => ?_
    rw [getMsbD_rxKey _ _ hj, h _ (by omega), bitAt_key _ hj]
  · refine BitVec.eq_of_getMsbD_eq fun j hj => ?_
    rw [getMsbD_rxCount _ _ hj, h _ (by omega), bitAt_count _ hj]
  · have hbits : bandSlots rx m = b.bits := BitVec.eq_of_getMsbD_eq fun j hj => by
      rw [getMsbD_bandSlots _ _ _ hj, h _ (by omega), bitAt_band hb _ hj]
    rw [rxBand_eq, hbits, bandOfBits_bits]
  · obtain ⟨hpresent, _⟩ := bandOfBits_fields (bandSlots rx k)
    have hk' := k.isLt
    rw [rxBand_eq, hpresent, getMsbD_bandSlots _ _ _ (by omega), h _ (by omega), Nat.add_zero,
      bitAt_other (fun hv => hk (Fin.ext hv))]

end Image

/-- Settles O10: where each field stands, and the image read back from its slots. -/
theorem anImageReadBackIsTheImage : Obligations.AnImageReadBackIsTheImage := by
  refine ⟨fun rx b => ⟨getLsbD_shiftIn_zero rx b, getLsbD_shiftIn_succ rx b⟩,
    fun rx => ⟨rxMarks_eq rx, getMsbD_rxKey rx, getMsbD_rxCount rx⟩, fun rx n => ?_,
    fun im b n rx hb h => image_readBack hb h⟩
  intro slot
  have hslot : ∀ j, j < 32 → (bandSlots rx n).getMsbD j = slot j := getMsbD_bandSlots rx n
  obtain ⟨hpresent, hrole, hunsettled, htier, hclaim, hvalue, halarms⟩ := bandOfBits_fields (bandSlots rx n)
  rw [rxBand_eq]
  refine ⟨hpresent.trans (hslot 0 (by omega)), fun j hj => (hrole j hj).trans (hslot _ (by omega)),
    hunsettled.trans (hslot 4 (by omega)), fun j hj => (htier j hj).trans (hslot _ (by omega)),
    fun j hj => (hclaim j hj).trans (hslot _ (by omega)), fun j hj => (hvalue j hj).trans (hslot _ (by omega)), ?_⟩
  rw [halarms, hslot 27 (by omega), hslot 28 (by omega), hslot 29 (by omega), hslot 30 (by omega),
    hslot 31 (by omega)]

end Sys2Proof.Proofs

/-! # Every command's answer, the notice queue, reads, the output pins (R183, R187 to R192, R194) -/

namespace Sys2Proof.Proofs

open Sys2Proof.Machine Sys2Proof.Laws

/-- No effect touches the waiting commands or the straps (R192). -/
theorem effect_keeps {s t : State} (h : Effect s t) : t.pending = s.pending ∧ t.straps = s.straps := by
  cases h <;> simp [State.sense, State.setPort]

/-- Settles O3: POWER_ON keeps the queue, every other command is an effect. -/
theorem everyCommandRunsAndKeepsTheQueue : Obligations.EveryCommandRunsAndKeepsTheQueue := by
  intro i s
  by_cases hi : ∃ st p, i = .powerOn st p
  · obtain ⟨st, p, rfl⟩ := hi
    exact ⟨_, rfl, by simp [powerOnState_eq, powerBase], fun h => absurd rfl (h st p)⟩
  · simp only [not_exists] at hi
    obtain ⟨t, hexec, heffect⟩ := exec_effect i s hi
    obtain ⟨hpending, hstraps⟩ := effect_keeps heffect
    exact ⟨t, hexec, hpending, fun _ => hstraps⟩

section Queue

/-- The first notice of the kind is replaced where it stands (R187). -/
theorem replaceKind_split {n : Notice} {l : List Notice} (h : ∃ m ∈ l, m.kind = n.kind) :
    ∃ a m b, l = a ++ m :: b ∧ m.kind = n.kind ∧ (∀ x ∈ a, x.kind ≠ n.kind) ∧
      replaceKind n l = a ++ n :: b := by
  induction l with
  | nil => simp at h
  | cons m r ih =>
    by_cases hm : m.kind = n.kind
    · exact ⟨[], m, r, rfl, hm, by simp, by simp [replaceKind, hm]⟩
    · have hr : ∃ x ∈ r, x.kind = n.kind := by simpa [hm] using h
      obtain ⟨a, x, b, hl, hx, ha, hrep⟩ := ih hr
      exact ⟨m :: a, x, b, by rw [hl]; rfl, hx, by simpa [hm] using ha, by simp [replaceKind, hm, hrep]⟩

theorem coalesces_iff {k : NoticeKind} : k.coalesces = true ↔ k = .grant ∨ k = .ceiling := by
  simp [NoticeKind.coalesces]

/-- A notice coalesces if one of its kind waits unlatched (R187). -/
theorem enqueue_of_coalesces {q : Port} {n : Notice}
    (h : (n.kind = .grant ∨ n.kind = .ceiling) ∧ ∃ m ∈ q.unlatched, m.kind = n.kind) :
    q.enqueue n = { q with queue := q.latchedHead ++ replaceKind n q.unlatched } := by
  obtain ⟨hkind, hwaits⟩ := h
  exact if_pos (by simpa [coalesces_iff.2 hkind] using hwaits)

theorem enqueue_of_not_coalesces {q : Port} {n : Notice}
    (h : ¬((n.kind = .grant ∨ n.kind = .ceiling) ∧ ∃ m ∈ q.unlatched, m.kind = n.kind)) :
    q.enqueue n = if q.queue.length < 32 then { q with queue := q.queue ++ [n] } else { q with lost := true } := by
  rw [Port.enqueue, if_neg]
  · rfl
  · simpa [coalesces_iff] using h

end Queue

/-- Settles O50: by whether a notice of the kind waits unlatched, and whether 32 wait. -/
theorem generatedNoticesCoalesceAppendOrAreLost : Obligations.GeneratedNoticesCoalesceAppendOrAreLost := by
  intro q n head free coalesces
  refine ⟨fun h => ?_, fun h hl => ?_, fun h hl => ?_⟩
  · obtain ⟨a, m, b, hsplit, hm, ha, hrep⟩ := replaceKind_split h.2
    refine ⟨a, m, b, hsplit, hm, ha, ?_⟩
    rw [enqueue_of_coalesces h]
    exact congrArg (fun l => { q with queue := head ++ l }) hrep
  · rw [enqueue_of_not_coalesces h, if_pos hl]
  · rw [enqueue_of_not_coalesces h, if_neg (by omega)]

section Outputs

variable {s : State}

theorem role_of_isPole (h : s.isPole = true) : s.role = .pole := by simpa [State.isPole] using h
theorem role_of_isDrive (h : s.isDrive = true) : s.role = .drive := by simpa [State.isDrive] using h
theorem role_of_isAux (h : s.isAux = true) : s.role = .aux := by simpa [State.isAux] using h
theorem role_of_isStore (h : s.isStore = true) : s.role = .store := by simpa [State.isStore] using h
theorem role_of_isCab (h : s.isCab = true) : s.role = .cab := by simpa [State.isCab] using h
theorem role_of_not_assigned (h : s.roleAssigned = false) : s.role = .unassigned := by
  simpa [State.roleAssigned] using h

theorem cutOut_of_isDrive (h : s.isDrive = true) : s.cutOut = s.ceil.cutHeld := by simp [State.cutOut, h]
theorem chargeEn_of_isStore (h : s.isStore = true) : s.chargeEn = decide (0 < s.ceil.ceiling) := by
  simp [State.chargeEn, h]
theorem lamp_of_isCab (h : s.isCab = true) :
    s.lamp = decide (s.line.join ≠ .asleep ∧ s.slate.entries ≠ []) := by
  rw [Bool.eq_iff_iff]
  simp [State.lamp, h]

end Outputs

/-- Settles O53: each output read off its definition, by role. -/
theorem outputsFollowTheState : Obligations.OutputsFollowTheState := by
  intro s
  refine ⟨?_, ?_, fun h => ?_, fun h => ?_, fun h k => ?_, fun h => ?_, fun h => ?_, fun h => ?_⟩
  · simp [State.lirq]
  · simp [State.tripOut, State.contends, Option.isSome_iff_ne_none, or_assoc]
  · rw [State.roleOutputs, role_of_isPole h]
    rfl
  · rw [State.roleOutputs, role_of_isDrive h]
    simp only [cutOut_of_isDrive h]
    rfl
  · rw [State.roleOutputs, role_of_isAux h]
    simp only [get_map]
    exact energized_iff _
  · rw [State.roleOutputs, role_of_isStore h]
    simp only [chargeEn_of_isStore h]
    rfl
  · rw [State.roleOutputs, role_of_isCab h]
    simp only [lamp_of_isCab h]
    rfl
  · rw [State.roleOutputs, role_of_not_assigned h]

section Summary

/-- The fields of a word laid out as the summary word is (R191). -/
theorem summary_fields (a : BitVec 4) (b c : BitVec 3) (z : Bool) (j : BitVec 3) (o h : Bool) :
    (a ++ b ++ c ++ BitVec.ofBool z ++ j ++ BitVec.ofBool o ++ BitVec.ofBool h).extractLsb' 12 4 = a ∧
    (a ++ b ++ c ++ BitVec.ofBool z ++ j ++ BitVec.ofBool o ++ BitVec.ofBool h).extractLsb' 9 3 = b ∧
    (a ++ b ++ c ++ BitVec.ofBool z ++ j ++ BitVec.ofBool o ++ BitVec.ofBool h).extractLsb' 6 3 = c ∧
    (a ++ b ++ c ++ BitVec.ofBool z ++ j ++ BitVec.ofBool o ++ BitVec.ofBool h).getLsbD 5 = z ∧
    (a ++ b ++ c ++ BitVec.ofBool z ++ j ++ BitVec.ofBool o ++ BitVec.ofBool h).extractLsb' 2 3 = j ∧
    (a ++ b ++ c ++ BitVec.ofBool z ++ j ++ BitVec.ofBool o ++ BitVec.ofBool h).getLsbD 1 = o ∧
    (a ++ b ++ c ++ BitVec.ofBool z ++ j ++ BitVec.ofBool o ++ BitVec.ofBool h).getLsbD 0 = h := by
  refine ⟨BitVec.eq_of_getLsbD_eq fun i hi => ?_, BitVec.eq_of_getLsbD_eq fun i hi => ?_,
    BitVec.eq_of_getLsbD_eq fun i hi => ?_, ?_, BitVec.eq_of_getLsbD_eq fun i hi => ?_, ?_, ?_⟩ <;>
  simp only [BitVec.getLsbD_extractLsb', BitVec.getLsbD_append, BitVec.getLsbD_ofBool]
  · interval_cases i <;> simp
  · interval_cases i <;> simp
  · interval_cases i <;> simp
  · simp
  · interval_cases i <;> simp
  · simp
  · simp

theorem poleField_toNat (s : State) (w : PoleName) :
    (BitVec.ofNat 3 (s.poleField w)).toNat = if s.isPole then (s.pole.record w).st.code else 7 := by
  have hcode : (s.pole.record w).st.code < 8 := by cases (s.pole.record w).st <;> simp [PoleState.code]
  rw [State.poleField, BitVec.toNat_ofNat]
  split
  · exact Nat.mod_eq_of_lt hcode
  · rfl

theorem joinCode_toNat (j : JoinState) : (BitVec.ofNat 3 j.code).toNat = j.code := by
  cases j <;> rfl

end Summary

/-- Settles O48: the read pointers, and the summary word field by field. -/
theorem snapshotAndSummaryAreReadInOrder : Obligations.SnapshotAndSummaryAreReadInOrder := by
  refine ⟨fun s hs => ⟨fun hlt => ?_, fun heq => ?_⟩, fun s => ⟨rfl, fun hs => ⟨fun hw => ?_, fun w hw => ?_⟩⟩⟩
  · have hptr : min s.port.snap.length (s.port.snapPtr + 1) = s.port.snapPtr + 1 := by omega
    simp [exec, execSnapshotRead, State.onlyIf, hs, Port.snapshotRead, hptr, State.setPort]
  · simp [exec, execSnapshotRead, State.onlyIf, hs, Port.snapshotRead, State.setPort, heq]
  · obtain ⟨h12, h9, h6, h5, h2, h1, h0⟩ := summary_fields (BitVec.ofNat 4 0) (BitVec.ofNat 3 (s.poleField .pos))
      (BitVec.ofNat 3 (s.poleField .neg)) s.ceilingZero (BitVec.ofNat 3 s.line.join.code) s.view.lineOff
      (s.arb.holder == .self)
    refine ⟨s.summaryWord, ?_, h12, ?_, ?_, ?_, ?_, h1, ?_⟩
    · simp [exec, execSummaryRead, State.onlyIf, hs, State.summaryRead, hw, State.setPort]
    · exact (congrArg BitVec.toNat h9).trans (poleField_toNat s .pos)
    · exact (congrArg BitVec.toNat h6).trans (poleField_toNat s .neg)
    · exact h5
    · exact (congrArg BitVec.toNat h2).trans (joinCode_toNat _)
    · exact h0
  · simp [exec, execSummaryRead, State.onlyIf, hs, State.summaryRead, hw, State.setPort]

end Sys2Proof.Proofs

/-! # The scanner's conversions, slow passes, and the expiries of pole and sounder (R64 to R70, R77, R84 to R92,
R172) -/

namespace Sys2Proof.Proofs

open Sys2Proof.Machine Sys2Proof.Laws

section Conversions

variable {p : Pins} {s : State} {c : Channel} {r : Raw}

/-- The end of a conversion that ends no pass (R64). -/
theorem exec_conversionEnd (hc : s.scan.conv = some ⟨c, r⟩) (hch : c = .an0 ∨ c = .an1 ∨ c = .an2) :
    exec (.conversionEnd p) s = .next ((s.sense p).setScan ((s.scan.store ⟨c, r⟩).choose p)) := by
  rcases hch with rfl | rfl | rfl <;>
    simp [exec, execConversionEnd, hc, State.onlyIf, Conv.endsA, Conv.isB]

theorem store_eq (x : Scan) (hch : c = .an0 ∨ c = .an1 ∨ c = .an2) : x.store ⟨c, r⟩ = { x with
    conv := none
    work :=
      { w0 := if c = .an0 then r else x.work.w0
        w1 := if c = .an1 then r else x.work.w1
        w2 := if c = .an2 then r else x.work.w2
        w3 := x.work.w3 } } := by
  rcases hch with rfl | rfl | rfl <;> rfl

theorem choose_idle {x : Scan} (hb : x.bHeld = none) (ha : x.aNext = none) : x.choose p = x := by
  unfold Scan.choose
  cases x.conv <;> simp [hb, ha]

theorem currentAtLimit_eq (span : Nat) (r : Raw) :
    currentAtLimit span r = decide (r.toNat = 1023 ∨ 1023 < r.toNat * span / 1024) := by
  rw [Bool.eq_iff_iff, currentAtLimit, currentRaw, Bool.or_eq_true, beq_iff_eq, decide_eq_true_iff,
    decide_eq_true_iff]

/-- The scanner with the AN4 result written, before the converter goes on (R66, R67, R69). -/
def currentWritten (x : Scan) (t : Settings) (r : Raw) : Scan :=
  { x with
    bCount := x.bCount + 1
    results := { x.results with
      e4 := ⟨r, ((min 1023 (r.toNat * t.currSpan / 1024) : Nat) : Int),
        decide (r.toNat = 1023 ∨ 1023 < r.toNat * t.currSpan / 1024), !x.settled, x.bCount + 1, none, none, none⟩ } }

/-- A capture request that waited is taken at the pass end (R66). -/
theorem passEndB_waiting {x : Scan} (t : Settings) (h : x.bWaiting = true) : x.passEndB t r p =
    { currentWritten x t r with
      conv := some ⟨.an4, p.an4⟩, bHeld := none, bRunning := true, bWaiting := false } := by
  simp only [Scan.passEndB, h, if_true]
  rw [choose_held rfl rfl]
  simp only [currentWritten, ← currentAtLimit_eq]
  rfl

theorem passEndB_due {x : Scan} {d : Channel} (t : Settings) (h : x.bWaiting = false) (hb : x.bHeld = none)
    (ha : x.aNext = some d) : x.passEndB t r p =
    { currentWritten x t r with conv := some ⟨d, pinRaw p d⟩, aNext := nextChannel d, bRunning := false } := by
  simp only [Scan.passEndB, h]
  rw [if_neg (by simp), choose_due (c := d)]
  · simp only [currentWritten, ← currentAtLimit_eq, h]
    rfl
  · rfl
  · exact hb
  · exact ha

theorem passEndB_idle {x : Scan} (t : Settings) (h : x.bWaiting = false) (hb : x.bHeld = none)
    (ha : x.aNext = none) :
    x.passEndB t r p = { currentWritten x t r with conv := none, bRunning := false } := by
  simp only [Scan.passEndB, h]
  rw [if_neg (by simp), choose_idle]
  · simp only [currentWritten, ← currentAtLimit_eq, h]
    rfl
  · exact hb
  · exact ha

/-- What the overdraw checks can touch (R115 to R118). -/
theorem currentChecked_eq (p : Pins) (r : Raw) (s : State) : currentChecked p r s = { s with
    pins := p
    scan := s.scan.passEndB s.port.settings r p
    budget := (currentChecked p r s).budget
    ceil := (currentChecked p r s).ceil
    feed := (currentChecked p r s).feed
    port := (currentChecked p r s).port } := by
  apply state_ext <;> simp [currentChecked, currentRead, State.sense]

end Conversions

/-- Settles O34: the converter's choice at the end of each conversion. -/
theorem conversionsFollowOneAnother : Obligations.ConversionsFollowOneAnother := by
  constructor
  · intro p s c r hc hch w
    refine ⟨fun v hv => ?_, fun hb => ⟨fun d hd => ?_, fun hd => ?_⟩⟩
    · rw [exec_conversionEnd hc hch, store_eq _ hch, choose_held]
      · rfl
      · rfl
      · exact hv
    · rw [exec_conversionEnd hc hch, store_eq _ hch, choose_due (c := d)]
      · rfl
      · rfl
      · exact hb
      · exact hd
    · rw [exec_conversionEnd hc hch, store_eq _ hch, choose_idle]
      · rfl
      · exact hb
      · exact hd
  · intro p s r hc hb raw y
    have hstate := currentChecked_eq p r s
    have hscan : (currentChecked p r s).scan = s.scan.passEndB s.port.settings r p := by rw [hstate]
    refine ⟨_, exec_groupBPassEnd hc, fun hw => ?_, fun hw => ⟨fun d hd => ?_, fun hd => ?_⟩, ?_⟩
    · rw [hscan, passEndB_waiting _ hw, ← hb]
      rfl
    · rw [hscan, passEndB_due _ hw hb hd]
      rfl
    · rw [hscan, passEndB_idle _ hw hb hd]
      rfl
    · rw [hscan]
      exact hstate

section SlowPass

variable {p : Pins} {s : State} {r : Raw}

/-- The angle part of a pass whose last raw is r (R70, R72). -/
def angleWritten (x : Scan) (t : Settings) (r : Raw) : Scan := (x.store ⟨.an3, r⟩).anglePass t

theorem angleNext_eq (a : Angle) (stow high d : Nat) : angleNext a stow high d =
    if d ≤ stow then (⟨.stowed, false⟩ : Angle)
    else if d ≤ high then ⟨.work, false⟩
    else if a.high then ⟨.high, true⟩ else ⟨a.zone, true⟩ := rfl

theorem angleWritten_spec (x : Scan) (t : Settings) (r : Raw) :
    (angleWritten x t r).aCount = x.aCount + 1 ∧
    (angleWritten x t r).angPos = angleNext x.angPos t.angleStow t.angleHigh (scaleAngle x.work.w2) ∧
    (angleWritten x t r).angNeg = angleNext x.angNeg t.angleStow t.angleHigh (scaleAngle r) ∧
    (angleWritten x t r).u = x.u ∧ (angleWritten x t r).shoePos = x.shoePos ∧
    (angleWritten x t r).shoeNeg = x.shoeNeg ∧ (angleWritten x t r).settled = x.settled ∧
    (angleWritten x t r).results = { x.results with
      e2 := angleResult x.work.w2 (!x.settled) (x.aCount + 1) (angleWritten x t r).angPos.zone
      e3 := angleResult r (!x.settled) (x.aCount + 1) (angleWritten x t r).angNeg.zone } :=
  ⟨rfl, rfl, rfl, rfl, rfl, rfl, rfl, rfl⟩

/-- The station at a slow pass end, before the wake detector looks (R77). -/
def slowWritten (p : Pins) (r : Raw) (s : State) : State :=
  (s.sense p).setScan ((angleWritten s.scan s.port.settings r).choose p)

theorem exec_slowPassEnd (hc : s.scan.conv = some ⟨.an3, r⟩) (hj : s.line.join = .asleep) :
    exec (.slowPassEnd p) s = .next (slowWritten p r s).slowDetect := by
  simp [exec, execSlowPassEnd, hc, State.onlyIf, Conv.endsA, hj]
  rfl

/-- The converter's choice leaves what a slow pass wrote (R64). -/
theorem slowWritten_spec (p : Pins) (r : Raw) (s : State) :
    (slowWritten p r s).scan.aCount = s.scan.aCount + 1 ∧
    (slowWritten p r s).scan.angPos = (angleWritten s.scan s.port.settings r).angPos ∧
    (slowWritten p r s).scan.angNeg = (angleWritten s.scan s.port.settings r).angNeg ∧
    (slowWritten p r s).scan.u = s.scan.u ∧ (slowWritten p r s).scan.shoePos = s.scan.shoePos ∧
    (slowWritten p r s).scan.shoeNeg = s.scan.shoeNeg ∧ (slowWritten p r s).scan.settled = s.scan.settled ∧
    (slowWritten p r s).scan.results = (angleWritten s.scan s.port.settings r).results := by
  rw [slowWritten, State.setScan_scan, choose_eq]
  exact ⟨rfl, rfl, rfl, rfl, rfl, rfl, rfl, rfl⟩

/-- What a wake leaves of the scanner's counters and U (R77). -/
theorem wake_scan_kept (s : State) (own : Bool) :
    (s.wake own).scan.aCount = s.scan.aCount ∧ (s.wake own).scan.u = s.scan.u := by
  rw [wake_scan]
  split
  · rw [startPass_eq]
    exact ⟨rfl, rfl⟩
  · exact ⟨rfl, rfl⟩

/-- What the wake detector leaves of the scanner at a slow pass end (R180). -/
theorem slowDetect_scan (s : State) : s.slowDetect.scan.aCount = s.scan.aCount ∧
    s.slowDetect.scan.angPos = s.scan.angPos ∧ s.slowDetect.scan.angNeg = s.scan.angNeg ∧
    s.slowDetect.scan.u = s.scan.u ∧ s.slowDetect.scan.shoePos.live = s.scan.shoePos.live ∧
    s.slowDetect.scan.shoeNeg.live = s.scan.shoeNeg.live ∧ s.slowDetect.scan.results = s.scan.results := by
  unfold State.slowDetect
  dsimp only
  split
  · obtain ⟨_, _, hsp, hsn, hres, hap, han, _⟩ := wake_scan_spec s true
    obtain ⟨hcount, hu⟩ := wake_scan_kept s true
    exact ⟨hcount, hap, han, hu, by rw [hsp], by rw [hsn], hres⟩
  · exact ⟨rfl, rfl, rfl, rfl, rfl, rfl, rfl⟩

/-- A pole off its stop, where the flag says it was stowed (R180). -/
def angleRises (s : State) : Prop :=
  (s.wakeDet.stowedPos = true ∧ s.scan.angPos.zone ≠ .stowed) ∨
    (s.wakeDet.stowedNeg = true ∧ s.scan.angNeg.zone ≠ .stowed)

theorem slowDetect_of_rises (h : angleRises s) : s.slowDetect = s.wake true :=
  if_pos (by simpa [angleRises, angleCause] using h)

theorem slowDetect_of_not_rises (h : ¬angleRises s) : s.slowDetect = s.setWakeDet { s.wakeDet with
    stowedPos := s.wakeDet.stowedPos || s.scan.angPos.zone == .stowed
    stowedNeg := s.wakeDet.stowedNeg || s.scan.angNeg.zone == .stowed } :=
  if_neg (by simpa [angleRises, angleCause] using h)

theorem exec_slowPassStart (hp : s.isPole = true) (hj : s.line.join = .asleep) :
    exec (.slowPassStart p) s = .next ((s.sense p).setScan (s.scan.startPass p)) := by
  simp [exec, execSlowPassStart, State.onlyIf, hp, hj]

theorem startPass_of_running {x : Scan} (h : x.passRunning = true) : x.startPass p = x := if_pos h

theorem startPass_idle {x : Scan} (h : x.passRunning = false) (hc : x.conv = none) (hb : x.bHeld = none) :
    x.startPass p = { x with conv := some ⟨.an0, p.an0⟩, aNext := some .an1 } := by
  rw [Scan.startPass, if_neg (by simp [h]), choose_due (c := .an0)]
  · rfl
  · exact hc
  · exact hb
  · rfl

end SlowPass

/-- Settles O36: the slow pass writes the angle part, and the wake detector looks at it. -/
theorem slowPassesWatchTheAngles : Obligations.SlowPassesWatchTheAngles := by
  intro p s hj
  refine ⟨fun hp hrun hc hb => ?_, fun hp hrun => ?_, fun r hc => ?_⟩
  · rw [exec_slowPassStart hp hj, startPass_idle hrun hc hb]
    rfl
  · rw [exec_slowPassStart hp hj, startPass_of_running hrun]
    rfl
  · intro e zone zp zn rises
    obtain ⟨_, hap, han, _, _, _, _, hres⟩ := angleWritten_spec s.scan s.port.settings r
    obtain ⟨hcount, hap', han', hu, hsp, hsn, hset, hres'⟩ := slowWritten_spec p r s
    obtain ⟨dcount, dap, dan, du, dsp, dsn, dres⟩ := slowDetect_scan (slowWritten p r s)
    have hzp : (slowWritten p r s).scan.angPos = zp := hap'.trans hap
    have hzn : (slowWritten p r s).scan.angNeg = zn := han'.trans han
    have hiff : angleRises (slowWritten p r s) ↔ rises := by rw [angleRises, hzp, hzn]; rfl
    refine ⟨_, exec_slowPassEnd hc hj, dcount.trans hcount, dap.trans hzp, dan.trans hzn, du.trans hu,
      dsp.trans (by rw [hsp]), dsn.trans (by rw [hsn]), ?_, fun hr => ?_, fun hr => ?_, ?_,
      by simp [slowWritten, State.sense]⟩
    · rw [dres, hres', hres, hap, han]
      simp only [angleResult, rawAtEnd_eq_decide]
      rfl
    · rw [slowDetect_of_rises (hiff.2 hr)]
      obtain ⟨hline, ⟨hset', _⟩, hdet, _⟩ := woken_wake (slowWritten p r s) true
      refine ⟨by rw [hline]; rfl, by rw [hline], hset', hdet, ?_⟩
      rw [portKept_iff]
      simp [wake_lineUp, slowWritten, State.sense]
    · rw [slowDetect_of_not_rises (mt hiff.1 hr), hzp, hzn]
      exact ⟨rfl, rfl, hset, rfl⟩
    · simp [slowWritten, State.sense]

end Sys2Proof.Proofs

/-! # Expiries of pole and sounder, and the role inputs (R84 to R92, R101 to R103, R131, R160, R170, R172) -/

namespace Sys2Proof.Proofs

open Sys2Proof.Machine Sys2Proof.Laws

section Poles

variable {s : State} {w : PoleName}

/-- The other pole. -/
def otherPole (w : PoleName) : PoleName :=
  match w with
  | .pos => .neg
  | .neg => .pos

theorem exec_rewireExpiry {l : Nat} (hp : s.isPole = true) (hr : s.pole.paused = false)
    (h : (s.pole.record w).st = .rewiring l) : exec (.rewireExpiry w) s =
    .next (((s.movePole w .onWire s.countStamp).clearDroppedOpen w).releaseArcCut s.countStamp) := by
  simp [exec, execRewireExpiry, State.onlyIf, State.poleTimers, hp, hr, h, PoleState.isRewiring]

theorem exec_gapExpiry {g l : Nat} (hp : s.isPole = true) (hr : s.pole.paused = false)
    (h : (s.pole.record w).st = .gap g l) : exec (.gapAllowanceExpiry w) s =
    .next (s.movePole w (.dropped .timed) s.countStamp) := by
  simp [exec, execGapAllowanceExpiry, State.onlyIf, State.poleTimers, hp, hr, h, PoleState.isGap]

/-- The record of a pole that has rewired (R84, R92). -/
theorem rewired_pole (s : State) (w : PoleName) :
    ((s.movePole w .onWire s.countStamp).clearDroppedOpen w).pole =
      s.pole.setRec w { s.pole.record w with st := .onWire, droppedOpen := false, stamp := s.countStamp } := by
  rw [State.clearDroppedOpen, State.setPole_pole, movePole_of_not_dropped _ _ _ (by simp [PoleState.code])]
  simp

/-- ARC_CUT is kept by the other pole's dropped-open or by the minimum timer (R102). -/
theorem arcKept_setRec (p : PoleWatch) (w : PoleName) (x : PoleRec) (h : x.droppedOpen = false) :
    ((p.setRec w x).pos.droppedOpen || (p.setRec w x).neg.droppedOpen || (p.setRec w x).arcMin.isSome) =
      ((p.record (otherPole w)).droppedOpen || p.arcMin.isSome) := by
  cases w <;> simp [PoleWatch.setRec, PoleWatch.record, otherPole, h]

theorem noticed_clearDroppedOpen (s : State) (w : PoleName) (m : Notice) :
    noticed (s.clearDroppedOpen w) m ↔ noticed s m := Iff.rfl

end Poles

/-- Settles O39: the move of the record, then ARC_CUT's release or assertion. -/
theorem poleTimersExpire : Obligations.PoleTimersExpire := by
  intro w s hp hr n x other
  have hother : other = s.pole.record (otherPole w) := by cases w <;> rfl
  refine ⟨fun l hl => ?_, fun g l hl => ?_⟩
  · refine ⟨_, exec_rewireExpiry hp hr hl, ?_⟩
    intro frees
    have hbase := rewired_pole s w
    have hnote : noticed ((s.movePole w .onWire s.countStamp).clearDroppedOpen w) ⟨.pole, poleBase w + 3, 0, n⟩ := by
      rw [noticed_clearDroppedOpen]
      have hself := noticed_movePole_self s w .onWire s.countStamp
      rw [hl] at hself
      exact hself
    have hpole := releaseArcCut_pole ((s.movePole w .onWire s.countStamp).clearDroppedOpen w) s.countStamp
    rw [hbase, arcKept_setRec _ _ _ (by rfl), setRec_arcCut] at hpole
    have hcut : (s.pole.arcCut && ((s.pole.record (otherPole w)).droppedOpen || s.pole.arcMin.isSome)) =
        (s.pole.arcCut && !frees) := by
      simp only [frees, hother]
      cases s.pole.arcCut <;> cases (s.pole.record (otherPole w)).droppedOpen <;> cases s.pole.arcMin <;> rfl
    rw [hcut] at hpole
    refine ⟨by apply state_ext <;> simp, by rw [portKept_iff]; simp, hpole, noticed_releaseArcCut hnote,
      fun hf => ?_⟩
    have hup : s.pole.arcCut = true := by
      simp only [frees, Bool.and_eq_true] at hf
      obtain ⟨⟨hup, _⟩, _⟩ := hf
      exact hup
    have hms := noticed_releaseArcCut_self
      (s := (s.movePole w .onWire s.countStamp).clearDroppedOpen w) s.countStamp
      (by rw [hbase, setRec_arcCut, hup]) (by rw [hpole, hf]; simp)
    rw [hbase, setRec_arcMs] at hms
    exact hms
  · refine ⟨_, exec_gapExpiry hp hr hl, by apply state_ext <;> simp, by rw [portKept_iff]; simp, ?_, ?_,
      noticed_movePole_asserts w _ (by rfl)⟩
    · rw [movePole_of_dropped _ _ _ (by rfl), arcAsserted, setRec_arcCut, setRec_arcMs]
      rfl
    · have hself := noticed_movePole_self s w (.dropped .timed) s.countStamp
      rw [hl] at hself
      exact hself

section Sounder

variable {s : State} {n : Nat}

theorem sounderOn_of_on (h : s.slate.sounder = true) : s.sounderOn n = s := if_pos h

theorem sounderOn_of_off (h : s.slate.sounder = false) : s.sounderOn n = (s.setSlate { s.slate with
    sounder := true, onMs := 0
    minLeft := if s.port.settings.soundMin = 0 then none else some s.port.settings.soundMin }).notify
      .slate 7 0 n := if_neg (by simp [h])

/-- SOUNDER is called for, or is OFF already (R172). -/
theorem sounderOffCheck_of_calls
    (h : s.slate.sounder = false ∨ s.slate.full = true ∨ ∃ e ∈ s.slate.entries, e.st = .raised) :
    s.sounderOffCheck n = s := by
  refine if_neg ?_
  rcases h with h | h | ⟨e, he, hr⟩
  · simp [h]
  · simp [h]
  · have hany : anyRaised s.slate.entries = true := List.any_eq_true.2 ⟨e, he, by simp [hr]⟩
    simp [hany]

theorem sounderOffCheck_of_silent (hmin : s.slate.minLeft = none)
    (h : ¬(s.slate.sounder = false ∨ s.slate.full = true ∨ ∃ e ∈ s.slate.entries, e.st = .raised)) :
    s.sounderOffCheck n = (s.setSlate { s.slate with sounder := false }).notify .slate 8 s.slate.onMs n := by
  obtain ⟨hon, hfull, hraised⟩ : s.slate.sounder = true ∧ s.slate.full = false ∧
      ∀ e ∈ s.slate.entries, e.st ≠ .raised := by simpa using h
  have hany : anyRaised s.slate.entries = false := by
    simpa [anyRaised] using hraised
  exact if_pos (by simp [hon, hfull, hany, hmin])

theorem exec_soundDelay {src : Fin 8} {k : AlarmKind} (hc : s.isCab = true)
    (h : ∃ e ∈ s.slate.entries, e.delayRuns src k = true) : exec (.soundDelayExpiry src k) s =
    .next ((s.setSlate { s.slate with entries := expireDelay src k s.slate.entries }).sounderOn s.countStamp) := by
  have hany : s.slate.entries.any (fun e => e.delayRuns src k) = true := List.any_eq_true.2 h
  exact congrArg Host.Outcome.next (if_pos (by rw [hc, hany]; rfl))

theorem exec_soundMin (hc : s.isCab = true) (h : s.slate.minLeft ≠ none) : exec .soundMinExpiry s =
    .next ((s.setSlate { s.slate with minLeft := none }).sounderOffCheck s.countStamp) :=
  congrArg Host.Outcome.next (if_pos (by rw [hc, Option.isSome_iff_ne_none.2 h]; rfl))

end Sounder

/-- Settles O42: the delay cleared or the minimum expired, then SOUNDER's own rule. -/
theorem sounderTimersExpire : Obligations.SounderTimersExpire := by
  intro s hc n
  refine ⟨fun src k h => ?_, fun h => ?_⟩
  · intro l
    rw [exec_soundDelay hc h]
    refine ⟨fun hon => ?_, fun hoff => ?_⟩
    · rw [sounderOn_of_on]
      · rfl
      · exact hon
    · rw [sounderOn_of_off]
      · rfl
      · exact hoff
  · intro calls
    rw [exec_soundMin hc h]
    refine ⟨fun hcalls => ?_, fun hsilent => ?_⟩
    · rw [sounderOffCheck_of_calls]
      · rfl
      · exact hcalls
    · rw [sounderOffCheck_of_silent]
      · rfl
      · rfl
      · exact hsilent

section ECut

variable {s : State} {n : Nat}

theorem comfortCut_of_tier_ne (h : s.port.settings.tier ≠ 1) : s.comfortCut n = s := if_neg (by simp [h])

theorem comfortCut_of_not_aux (h : s.isAux = false) : s.comfortCut n = s := if_neg (by simp [h])

theorem comfortCut_feed (h : s.isAux = true) (ht : s.port.settings.tier = 1) (k : Fin 8) :
    (s.comfortCut n).feed.get k = turnedOff n (s.feed.get k) := by
  rw [State.comfortCut, if_pos (by simp [h, ht]), deenergize_feed, if_pos (List.mem_reverse.2 (mem_allEight k))]

theorem noticed_comfortCut_self {k : Fin 8} (h : s.isAux = true) (ht : s.port.settings.tier = 1)
    (he : (s.feed.get k).st.energized = true) : noticed (s.comfortCut n) ⟨.feeder, k.val, 256 * 5 + 1, n⟩ := by
  rw [State.comfortCut, if_pos (by simp [h, ht])]
  exact noticed_deenergize_self (List.mem_reverse.2 (mem_allEight k)) he

/-- The CEILING notice of a cut that moves the record (R137). -/
theorem ceilingCutNow_port (h : s.hasCeiling = true) (hc : s.ceil.ceiling ≠ 0 ∨ s.ceil.st ≠ .heldZero) :
    s.ceilingCutNow.port = s.port.enqueue ⟨.ceiling, 0, 0, s.countStamp⟩ := by
  have hne : ¬(s.ceil.cutCase.ceiling = s.ceil.ceiling ∧ s.ceil.cutCase.st = s.ceil.st) := by
    rintro ⟨hz, hst⟩
    rcases hc with hc | hc
    · exact hc hz.symm
    · exact hc hst.symm
  rw [State.ceilingCutNow, if_pos h, State.putCeil, if_neg hne]
  rfl

/-- The state an asserting edge of E_CUT leaves (R131, R160). -/
def eCutActed (p : Pins) (s : State) : State := ((s.sense p).ceilingCutNow).comfortCut s.countStamp

theorem exec_eCutEdge {p : Pins} (h : p.eCut = true) : exec (.eCutEdge p) s = .next (eCutActed p s) :=
  congrArg Host.Outcome.next (if_pos h)

theorem eCutActed_of_ceiling (p : Pins) (h : s.hasCeiling = true) :
    eCutActed p s = (s.sense p).ceilingCutNow := by
  refine comfortCut_of_not_aux ?_
  have haux : (s.sense p).isAux = false := isAux_of_hasCeiling h
  rw [isAux_congr (s := s.sense p) (by simp), haux]

theorem eCutActed_of_not_ceiling (p : Pins) (h : s.hasCeiling = false) :
    eCutActed p s = (s.sense p).comfortCut s.countStamp := by
  rw [eCutActed, ceilingCutNow_of_not_ceiling]
  exact h

end ECut

/-- Settles O43: an asserting edge of E_CUT acts on the ceiling or the comfort feeders, by role. -/
theorem roleInputsActAtTheirEdges : Obligations.RoleInputsActAtTheirEdges := by
  refine ⟨fun p s => ?_, fun p s => ⟨rfl, rfl, fun hp hc => ?_, fun hp hc => ?_⟩⟩
  · intro n
    refine ⟨fun hp => ?_, fun hp => ?_⟩
    · exact congrArg Host.Outcome.next (if_neg (by simp [hp]))
    · have hnot : s.isAux = true → s.hasCeiling = false := fun ha => by
        cases hc : s.hasCeiling with
        | false => rfl
        | true => rw [isAux_of_hasCeiling hc] at ha; exact absurd ha (by simp)
      refine ⟨_, exec_eCutEdge hp, ?_, ?_, fun hc => ?_, fun hc => ?_, fun ha ht k => ?_, fun ha ht k he => ?_,
        fun ha ht => ?_, fun hc ha => ?_⟩
      · apply state_ext <;> simp [eCutActed, State.sense]
      · rw [portKept_iff]
        simp [eCutActed, State.sense]
      · rw [eCutActed_of_ceiling p hc]
        refine ⟨ceilingCutNow_ceil (s := s.sense p) hc, by simp [State.sense], fun hmove => ?_⟩
        exact ceilingCutNow_port (s := s.sense p) hc hmove
      · rw [eCutActed_of_not_ceiling p hc]
        simp [State.sense]
      · rw [eCutActed_of_not_ceiling p (hnot ha)]
        exact comfortCut_feed (s := s.sense p) ha ht k
      · rw [eCutActed_of_not_ceiling p (hnot ha)]
        exact noticed_comfortCut_self (s := s.sense p) ha ht he
      · rw [eCutActed_of_not_ceiling p (hnot ha), comfortCut_of_tier_ne]
        · exact ⟨rfl, rfl⟩
        · exact ht
      · rw [eCutActed_of_not_ceiling p hc, comfortCut_of_not_aux]
        · exact ⟨rfl, rfl⟩
        · exact ha
  · simp [exec, execAckInPress, State.onlyIf, hp, hc, State.sense]
    rfl
  · simp [exec, execAckInPress, State.onlyIf, hp, hc, State.sense, Slate.press, State.setSlate]
    rfl

end Sys2Proof.Proofs

/-! # Settings: CFG_WRITE and CFG_LOCK (R71, R72, R75, R114, R159, R163, R186, R193) -/

namespace Sys2Proof.Proofs

open Sys2Proof.Machine Sys2Proof.Laws

section Codes

variable {x y : Settings} {c code : Nat}

/-- The settings but for the nominals and the inrush rounds, each under its code (R193). -/
def settingTable (x : Settings) : List (Nat × Nat) :=
  [(1, x.tier), (2, x.iCap), (3, x.uFloor), (4, x.uKnee), (5, x.uRegen), (6, x.lineMargin), (7, x.ownMargin),
    (8, x.cutHold), (9, x.limpA), (16, x.sectionDm), (17, x.gapGuard), (18, x.shoeDead), (19, x.shoeLive),
    (20, x.angleStow), (21, x.angleHigh), (22, x.rewireMs), (23, x.arcCutMin), (32, x.potSpan), (33, x.currSpan),
    (34, x.settleMs), (40, x.riseStep), (41, x.rampWindow), (42, x.tripPulse), (64, x.quietMs),
    (72, x.soundDelay), (73, x.soundMin), (74, x.latchMask), (80, x.watermark)]

/-- The table with one entry's value replaced. -/
def overwrite (code n : Nat) (l : List (Nat × Nat)) : List (Nat × Nat) :=
  l.map fun e => if e.1 = code then (code, n) else e

theorem lookup_cons_of_ne {a m : Nat} (l : List (Nat × Nat)) (h : ¬c = a) :
    ((a, m) :: l).lookup c = l.lookup c := by
  rw [List.lookup_cons, beq_false_of_ne h]

theorem lookup_overwrite (n : Nat) (l : List (Nat × Nat)) (h : c ≠ code) :
    (overwrite code n l).lookup c = l.lookup c := by
  induction l with
  | nil => rfl
  | cons e r ih =>
    obtain ⟨a, m⟩ := e
    have hr : (overwrite code n ((a, m) :: r)) = (if a = code then (code, n) else (a, m)) :: overwrite code n r := rfl
    rw [hr]
    split
    · rename_i ha
      rw [lookup_cons_of_ne _ h, ih, lookup_cons_of_ne _ (by rw [ha]; exact h)]
    · rw [List.lookup_cons, List.lookup_cons, ih]

theorem get_nominal (h : 48 ≤ c) (h' : c < 56) : x.get c = some (x.nominal.get (eightOf c)) := by
  unfold Settings.get
  split
  case h_29 => rw [if_pos (by simp [h, h'])]
  all_goals omega

theorem get_inrush (h : 56 ≤ c) (h' : c < 64) : x.get c = some (x.inrush.get (eightOf c)) := by
  unfold Settings.get
  split
  case h_29 => rw [if_neg (by simp; omega), if_pos (by simp [h, h'])]
  all_goals omega

theorem get_other (h : ¬(48 ≤ c ∧ c < 56)) (h' : ¬(56 ≤ c ∧ c < 64)) : x.get c = (settingTable x).lookup c := by
  unfold Settings.get
  split
  case h_29 =>
    rw [if_neg (by simpa using h), if_neg (by simpa using h')]
    refine (List.lookup_eq_none_iff.2 ?_).symm
    simp only [settingTable, List.forall_mem_cons, bne_iff_ne, List.not_mem_nil, false_imp_iff, implies_true,
      and_true]
    and_intros <;> assumption
  all_goals rfl

theorem put_nominal_code {v : Nat} (h : 48 ≤ code) (h' : code < 56) :
    x.put code v = some { x with nominal := x.nominal.set (eightOf code) (clamp 0 255 v) } := by
  unfold Settings.put
  split
  case h_29 => rw [if_pos (by simp [h, h'])]
  all_goals omega

theorem put_inrush_code {v : Nat} (h : 56 ≤ code) (h' : code < 64) :
    x.put code v = some { x with inrush := x.inrush.set (eightOf code) (clamp 1 15 v) } := by
  unfold Settings.put
  split
  case h_29 => rw [if_neg (by simp; omega), if_pos (by simp [h, h'])]
  all_goals omega

theorem settingRange_nominal (h : 48 ≤ code) (h' : code < 56) : settingRange code = some (0, 255) := by
  unfold settingRange
  split
  case h_29 => rw [if_pos (by omega)]
  all_goals omega

theorem settingRange_inrush (h : 56 ≤ code) (h' : code < 64) : settingRange code = some (1, 15) := by
  unfold settingRange
  split
  case h_29 => rw [if_neg (by omega), if_pos (by omega)]
  all_goals omega

/-- A code that names no setting is refused by the write (R193). -/
theorem put_of_no_range {v : Nat} (h : settingRange code = none) : x.put code v = none := by
  have hnom : ¬(48 ≤ code ∧ code < 56) := fun ⟨hlo, hhi⟩ => by
    rw [settingRange_nominal hlo hhi] at h
    cases h
  have hinr : ¬(56 ≤ code ∧ code < 64) := fun ⟨hlo, hhi⟩ => by
    rw [settingRange_inrush hlo hhi] at h
    cases h
  unfold Settings.put
  split
  case h_29 => rw [if_neg (by simpa using hnom), if_neg (by simpa using hinr)]
  all_goals cases h

end Codes

section Written

variable {x y : Settings} {code lo hi : Nat}

/-- What a write of the code leaves of its own setting and of the upper one of its pair (R71, R72, R114, R193). -/
def writtenAs (x y : Settings) (code lo hi v : Nat) : Prop :=
  (code = 1 → y.tier = if v ≤ 1 then 1 else 3) ∧
  (code = 4 → y.uKnee = max (max lo (min hi v)) (x.uFloor + 1)) ∧
  (code = 19 → y.shoeLive = max (max lo (min hi v)) (x.shoeDead + 1)) ∧
  (code = 21 → y.angleHigh = max (max lo (min hi v)) (x.angleStow + 1)) ∧
  (code ∉ [1, 4, 19, 21] → y.get code = some (max lo (min hi v))) ∧
  (code = 3 → y.uKnee = max x.uKnee (y.uFloor + 1)) ∧
  (code = 18 → y.shoeLive = max x.shoeLive (y.shoeDead + 1)) ∧
  (code = 20 → y.angleHigh = max x.angleHigh (y.angleStow + 1))

/-- A setting with no pair and no steps of its own holds the clamped value. -/
theorem writtenAs_of_plain {v : Nat} (h : code ∉ [1, 3, 4, 18, 19, 20, 21])
    (hg : y.get code = some (max lo (min hi v))) : writtenAs x y code lo hi v := by
  simp only [List.mem_cons, List.not_mem_nil, or_false, not_or] at h
  obtain ⟨h1, h3, h4, h18, h19, h20, h21⟩ := h
  exact ⟨fun h => absurd h h1, fun h => absurd h h4, fun h => absurd h h19, fun h => absurd h h21, fun _ => hg,
    fun h => absurd h h3, fun h => absurd h h18, fun h => absurd h h20⟩

/-- Every setting is kept but the one written and the upper one of its pair (R193). -/
def othersKept (x y : Settings) (code : Nat) : Prop :=
  ∀ c, c ≠ code → (code, c) ∉ [(3, 4), (18, 19), (20, 21)] → y.get c = x.get c

theorem othersKept_of_table (hn : y.nominal = x.nominal) (hi : y.inrush = x.inrush)
    (ht : ∀ c, c ≠ code → (code, c) ∉ [(3, 4), (18, 19), (20, 21)] →
      (settingTable y).lookup c = (settingTable x).lookup c) : othersKept x y code := by
  intro c hc hp
  by_cases hnom : 48 ≤ c ∧ c < 56
  · obtain ⟨hlo, hhi⟩ := hnom
    rw [get_nominal hlo hhi, get_nominal hlo hhi, hn]
  · by_cases hinr : 56 ≤ c ∧ c < 64
    · obtain ⟨hlo, hhi⟩ := hinr
      rw [get_inrush hlo hhi, get_inrush hlo hhi, hi]
    · rw [get_other hnom hinr, get_other hnom hinr, ht c hc hp]

/-- One entry of the table written. -/
theorem othersKept_of_one {n : Nat} (hn : y.nominal = x.nominal) (hi : y.inrush = x.inrush)
    (ht : settingTable y = overwrite code n (settingTable x)) : othersKept x y code :=
  othersKept_of_table hn hi fun c hc _ => by rw [ht, lookup_overwrite _ _ hc]

/-- One entry written and the upper one of its pair raised. -/
theorem othersKept_of_pair {n up m : Nat} (hn : y.nominal = x.nominal) (hi : y.inrush = x.inrush)
    (hp : (code, up) ∈ [(3, 4), (18, 19), (20, 21)])
    (ht : settingTable y = overwrite up m (overwrite code n (settingTable x))) : othersKept x y code :=
  othersKept_of_table hn hi fun c hc hq => by
    have hup : c ≠ up := fun h => hq (h ▸ hp)
    rw [ht, lookup_overwrite _ _ hup, lookup_overwrite _ _ hc]

theorem eightOf_ne {a b k : Nat} (ha : 8 * k ≤ a) (ha' : a < 8 * k + 8) (hb : 8 * k ≤ b) (hb' : b < 8 * k + 8)
    (h : a ≠ b) : eightOf a ≠ eightOf b := by
  intro he
  have hval : a % 8 = b % 8 := congrArg Fin.val he
  omega

theorem written_nominal (v : Nat) (h : 48 ≤ code) (h' : code < 56) :
    writtenAs x { x with nominal := x.nominal.set (eightOf code) (clamp 0 255 v) } code 0 255 v ∧
    othersKept x { x with nominal := x.nominal.set (eightOf code) (clamp 0 255 v) } code := by
  refine ⟨⟨by omega, by omega, by omega, by omega, fun _ => ?_, by omega, by omega, by omega⟩, fun c hc _ => ?_⟩
  · rw [get_nominal h h', get_set, if_pos rfl]
    rfl
  · by_cases hnom : 48 ≤ c ∧ c < 56
    · obtain ⟨hlo, hhi⟩ := hnom
      rw [get_nominal hlo hhi, get_nominal hlo hhi, get_set, if_neg (eightOf_ne (k := 6) hlo hhi h h' hc)]
    · by_cases hinr : 56 ≤ c ∧ c < 64
      · obtain ⟨hlo, hhi⟩ := hinr
        rw [get_inrush hlo hhi, get_inrush hlo hhi]
      · rw [get_other hnom hinr, get_other hnom hinr]
        rfl

theorem written_inrush (v : Nat) (h : 56 ≤ code) (h' : code < 64) :
    writtenAs x { x with inrush := x.inrush.set (eightOf code) (clamp 1 15 v) } code 1 15 v ∧
    othersKept x { x with inrush := x.inrush.set (eightOf code) (clamp 1 15 v) } code := by
  refine ⟨⟨by omega, by omega, by omega, by omega, fun _ => ?_, by omega, by omega, by omega⟩, fun c hc _ => ?_⟩
  · rw [get_inrush h h', get_set, if_pos rfl]
    rfl
  · by_cases hnom : 48 ≤ c ∧ c < 56
    · obtain ⟨hlo, hhi⟩ := hnom
      rw [get_nominal hlo hhi, get_nominal hlo hhi]
    · by_cases hinr : 56 ≤ c ∧ c < 64
      · obtain ⟨hlo, hhi⟩ := hinr
        rw [get_inrush hlo hhi, get_inrush hlo hhi, get_set, if_neg (eightOf_ne (k := 7) hlo hhi h h' hc)]
      · rw [get_other hnom hinr, get_other hnom hinr]
        rfl

/-- A write of a code that names a setting (R114, R193). -/
theorem put_spec (v : Nat) (hr : settingRange code = some (lo, hi)) :
    ∃ y, x.put code v = some y ∧ writtenAs x y code lo hi v ∧ othersKept x y code := by
  unfold settingRange at hr
  split at hr
  case h_29 =>
    split at hr
    · rename_i hnom
      cases hr
      exact ⟨_, put_nominal_code hnom.1 (by omega), written_nominal v hnom.1 (by omega)⟩
    · split at hr
      · rename_i hinr
        cases hr
        exact ⟨_, put_inrush_code hinr.1 (by omega), written_inrush v hinr.1 (by omega)⟩
      · cases hr
  case h_1 =>
    cases hr
    refine ⟨_, rfl, ?_, othersKept_of_one rfl rfl rfl⟩
    simp [writtenAs, clampTier]
  case h_3 =>
    cases hr
    refine ⟨_, rfl, ?_, othersKept_of_pair (up := 4) rfl rfl (by simp) rfl⟩
    simp [writtenAs, clamp, Settings.pairU, Settings.get]
  case h_4 =>
    cases hr
    refine ⟨_, rfl, ?_, othersKept_of_one rfl rfl rfl⟩
    simp [writtenAs, clamp, Settings.pairU]
  case h_12 =>
    cases hr
    refine ⟨_, rfl, ?_, othersKept_of_pair (up := 19) rfl rfl (by simp) rfl⟩
    simp [writtenAs, clamp, Settings.pairShoe, Settings.get]
  case h_13 =>
    cases hr
    refine ⟨_, rfl, ?_, othersKept_of_one rfl rfl rfl⟩
    simp [writtenAs, clamp, Settings.pairShoe]
  case h_14 =>
    cases hr
    refine ⟨_, rfl, ?_, othersKept_of_pair (up := 21) rfl rfl (by simp) rfl⟩
    simp [writtenAs, clamp, Settings.pairAngle, Settings.get]
  case h_15 =>
    cases hr
    refine ⟨_, rfl, ?_, othersKept_of_one rfl rfl rfl⟩
    simp [writtenAs, clamp, Settings.pairAngle]
  all_goals
    cases hr
    exact ⟨_, rfl, writtenAs_of_plain (by decide) rfl, othersKept_of_one rfl rfl rfl⟩

end Written

section Write

variable {s : State} {item : Byte} {v : BitVec 16}

/-- The station with the settings of a write, before it acts (R186, R193). -/
def settingStored (s : State) (x : Settings) : State :=
  s.paramsTaken.setPort { s.paramsTaken.port with settings := x }

theorem exec_cfgWrite_stored {x : Settings} (hl : s.port.locked = false)
    (hx : s.port.settings.put item.toNat v.toNat = some x) :
    exec (.cfgWrite item v) s = .next ((settingStored s x).settingWritten item.toNat) :=
  congrArg Host.Outcome.next (cfgWrite_put (s := s.paramsTaken) hl hx)

theorem exec_cfgWrite_refused (h : s.port.locked = true ∨ settingRange item.toNat = none) :
    exec (.cfgWrite item v) s = .next s.paramsTaken.refuse := by
  rcases h with h | h
  · exact congrArg Host.Outcome.next (cfgWrite_locked (s := s.paramsTaken) h)
  · exact congrArg Host.Outcome.next (cfgWrite_none (s := s.paramsTaken) (put_of_no_range h))

theorem settleNow_eq (s : State) : s.settleNow = s.setScan { s.scan with
    settled := s.scan.settled ||
      (decide (s.line.join ≠ .asleep) && decide (s.port.settings.settleMs ≤ s.scan.settleMs)) } := by
  by_cases h : s.line.join ≠ .asleep ∧ s.port.settings.settleMs ≤ s.scan.settleMs
  · rw [State.settleNow, if_pos h]
    simp [h]
  · rw [State.settleNow, if_neg h]
    have hd : (decide (s.line.join ≠ .asleep) && decide (s.port.settings.settleMs ≤ s.scan.settleMs)) = false := by
      simpa using h
    rw [hd, Bool.or_false]
    rfl

/-- A write that acts at once on the settle state alone (R75). -/
theorem settingWritten_of_not_nominal {code : Nat} (h : isNominalCode code = false) :
    s.settingWritten code = s.setScan { s.scan with
      settled := s.scan.settled || (decide (code = 34) && decide (s.line.join ≠ .asleep) &&
        decide (s.port.settings.settleMs ≤ s.scan.settleMs)) } := by
  by_cases hc : code = 34
  · rw [State.settingWritten, if_pos hc, settleNow_eq]
    simp [hc]
  · rw [State.settingWritten, if_neg hc, if_neg (by simp [h])]
    simp [hc, State.setScan]

theorem isNominalCode_iff {code : Nat} : isNominalCode code = true ↔ 48 ≤ code ∧ code < 56 := by
  simp [isNominalCode]

/-- A write touches the scanner, the feeders and the port only (R193). -/
theorem settingWritten_eq (s : State) (code : Nat) : s.settingWritten code = { s with
    scan := (s.settingWritten code).scan
    feed := (s.settingWritten code).feed
    port := (s.settingWritten code).port } := by
  apply state_ext <;> simp

theorem settingWritten_scan (s : State) (code : Nat) : (s.settingWritten code).scan = { s.scan with
    settled := s.scan.settled || (decide (code = 34) && decide (s.line.join ≠ .asleep) &&
      decide (s.port.settings.settleMs ≤ s.scan.settleMs)) } := by
  cases hc : isNominalCode code with
  | false => rw [settingWritten_of_not_nominal hc]; rfl
  | true =>
    have hne : code ≠ 34 := by
      have := isNominalCode_iff.1 hc
      omega
    rw [settingWritten_nominal hc]
    simp [hne]

theorem settingWritten_port (s : State) (code : Nat) : (s.settingWritten code).port = { s.port with
    queue := (s.settingWritten code).port.queue, lost := (s.settingWritten code).port.lost } := by
  have hkept : portKept s (s.settingWritten code) s.port.lineUp := by
    rw [portKept_iff]
    simp
  exact hkept

/-- No other write sheds (R159). -/
theorem settingWritten_still {code : Nat} (h : code < 48 ∨ 56 ≤ code ∨ s.isAux = false) :
    (s.settingWritten code).feed = s.feed ∧ (s.settingWritten code).port = s.port := by
  cases hc : isNominalCode code with
  | false => rw [settingWritten_of_not_nominal hc]; exact ⟨rfl, rfl⟩
  | true =>
    have haux : s.isAux = false := by
      obtain ⟨hlo, hhi⟩ := isNominalCode_iff.1 hc
      rcases h with h | h | h
      · omega
      · omega
      · exact h
    rw [settingWritten_nominal hc, shedToGrant_of_not_aux haux]
    exact ⟨rfl, rfl⟩

/-- A nominal written sheds at once what the own grant no longer holds (R159, R163). -/
theorem settingWritten_sheds {code : Nat} (hlo : 48 ≤ code) (hhi : code < 56) (ha : s.isAux = true) :
    (s.settingWritten code).feed =
      shedTable s.port.settings.nominal s.feed s.ownGrant s.line.roundCount.toNat ∧
    (s.settingWritten code).energizedSum ≤ (s.settingWritten code).ownGrant ∧
    ∀ k, isShed s.port.settings.nominal s.feed s.ownGrant k = true →
      noticed (s.settingWritten code) ⟨.feeder, k.val, 256 * 4 + 1, s.line.roundCount.toNat⟩ := by
  rw [settingWritten_nominal (isNominalCode_iff.2 ⟨hlo, hhi⟩)]
  have hown : (s.shedToGrant s.countStamp).ownGrant = s.ownGrant := ownGrant_congr _ _ (by simp) (by simp)
  exact ⟨shedToGrant_feed _ _ ha, by rw [hown]; exact shedToGrant_sum _ _ ha,
    fun k hk => noticed_shedToGrant_self ha hk⟩

theorem roleAssigned_iff : s.roleAssigned = true ↔ 1 ≤ s.straps.role.toNat ∧ s.straps.role.toNat ≤ 5 := by
  rw [State.roleAssigned, State.role, bne_iff_ne]
  generalize s.straps.role = c
  revert c
  decide

end Write

/-- Settles O44: the write by its code, and what it does at once. -/
theorem settingsAreWrittenUntilTheLock : Obligations.SettingsAreWrittenUntilTheLock := by
  refine ⟨fun item value s => ?_, fun s => ?_⟩
  · intro t0 v q
    refine ⟨fun h => exec_cfgWrite_refused h, fun hl lo hi hr => ?_⟩
    obtain ⟨x, hput, ⟨hw1, hw4, hw19, hw21, hwget, hw3, hw18, hw20⟩, hothers⟩ := put_spec (x := t0) v hr
    have hport := settingWritten_port (settingStored s x) item.toNat
    have hset : ((settingStored s x).settingWritten item.toNat).port.settings = x := by rw [hport]; rfl
    refine ⟨_, exec_cfgWrite_stored hl hput, ?_⟩
    rw [hset]
    refine ⟨hw1, hw4, hw19, hw21, hwget, hw3, hw18, hw20, hothers,
      settingWritten_scan (settingStored s x) item.toNat, settingWritten_still (s := settingStored s x),
      hport, settingWritten_sheds (s := settingStored s x), ?_⟩
    exact settingWritten_eq (settingStored s x) item.toNat
  · intro q
    refine ⟨fun h => ?_, fun h => ?_⟩
    · exact congrArg Host.Outcome.next (if_pos (roleAssigned_iff.2 h))
    · exact congrArg Host.Outcome.next (if_neg (mt roleAssigned_iff.1 h))

end Sys2Proof.Proofs

/-! # Snapshots: the copies byte by byte (R43, R67, R78, R107, R126, R154, R165, R190) -/

namespace Sys2Proof.Proofs

open Sys2Proof.Machine Sys2Proof.Laws

section Copies

variable {s : State} {item index : Byte}

theorem byteB_eq (b : Bool) : byteB b = byte1 (if b then 1 else 0) := by cases b <;> rfl

theorem shoeCode_eq (o : Option Bool) : shoeCode o = if o.getD false then 1 else 0 := by
  rw [shoeCode]
  cases o.getD false <;> rfl

theorem alarmsByte_eq (a : Alarms) : a.byte =
    (if a.k0 then 1 else 0) + (if a.k1 then 2 else 0) + (if a.k2 then 4 else 0) + (if a.k3 then 8 else 0) +
      (if a.k4 then 16 else 0) := by
  obtain ⟨k0, k1, k2, k3, k4⟩ := a
  revert k0 k1 k2 k3 k4
  decide

/-- A copy of a record of eight at its index. -/
theorem copyAt_val (f : Fin 8 → List Byte) (k : Fin 8) : copyAt k.val f = f k := by
  rw [copyAt, if_pos k.isLt]
  congr 1
  exact Fin.ext (Nat.mod_eq_of_lt k.isLt)

theorem copyAt_of_out {n : Nat} (f : Fin 8 → List Byte) (h : 8 ≤ n) : copyAt n f = [] := if_neg (by omega)

theorem exec_snapshot_some {l : List Byte} (h : s.copyOf item.toNat index.toNat = some l) :
    exec (.snapshot item index) s = .next (s.paramsTaken.setPort
      { s.paramsTaken.port with source := .snapshot, snap := l, snapPtr := 0 }) := by
  have hcopy : s.paramsTaken.copyOf item.toNat index.toNat = some l := h
  exact congrArg Host.Outcome.next (by rw [State.snapshotCmd, hcopy])

theorem exec_snapshot_none (h : s.copyOf item.toNat index.toNat = none) :
    exec (.snapshot item index) s = .next s.paramsTaken.refuse := by
  have hcopy : s.paramsTaken.copyOf item.toNat index.toNat = none := h
  exact congrArg Host.Outcome.next (by rw [State.snapshotCmd, hcopy])

theorem copyOf_of_large {i n : Nat} (h : 9 ≤ i) : s.copyOf i n = none := by
  obtain ⟨j, rfl⟩ : ∃ j, i = j + 9 := ⟨i - 9, by omega⟩
  rfl

/-- The copy of an item that is not refused (R190). -/
def copied (s : State) (i n : Nat) : List Byte := (s.copyOf i n).getD []

theorem copyOf_of_small {i n : Nat} (h : i ≤ 8) : s.copyOf i n = some (copied s i n) := by
  interval_cases i <;> rfl

/-- The bytes of a POLE record, by its state (R78). -/
theorem poleRec_copy (x : PoleRec) : x.copy =
    byte1 x.st.code ++ byte1 x.st.causeCode ++ byte2 x.st.allowances.1 ++ byte2 x.st.allowances.2 ++
      byte2 x.st.rewireLeft ++ byte1 (if x.droppedOpen then 1 else 0) ++ byte1 (if x.unacked then 1 else 0) ++
      byte1 (if x.ackable then 1 else 0) ++ byte2 x.stamp := by
  simp only [PoleRec.copy, byteB_eq]

/-- The two bytes of the trip timer, 0 when it is stopped (R107). -/
def tripBytes (o : Option Nat) : List Byte :=
  match o with
  | some ms => byte1 1 ++ byte1 ms
  | none => byte1 0 ++ byte1 0

/-- The bytes of the budget record (R107). -/
theorem budget_copy (b : Budget) (own : Nat) : b.copy own =
    byte1 b.kind.code ++ byte2 b.stamp ++ byte1 (if b.lineOffUsed then 1 else 0) ++ byte2 b.uUsed ++
      byte2 b.lav ++ byte2 b.offerUsed ++ byte2 b.avail ++ byte2 (b.grants.get 0) ++ byte2 (b.grants.get 1) ++
      byte2 (b.grants.get 2) ++ byte2 (b.grants.get 3) ++ byte2 (b.grants.get 4) ++ byte2 (b.grants.get 5) ++
      byte2 (b.grants.get 6) ++ byte2 (b.grants.get 7) ++ byte2 b.remainder ++ byte2 own ++
      byte1 (if b.limp then 1 else 0) ++ byte1 (if b.ownOverdraw then 1 else 0) ++ byte1 b.overCount ++
      byte1 b.underCount ++ tripBytes b.trip ++ byte1 b.overCurrent ++ byte1 b.cutHold ++ byte2 b.lastI := by
  have htrip : byteB b.trip.isSome ++ byte1 (orZero b.trip) = tripBytes b.trip := by cases b.trip <;> rfl
  have hgrants : grantBytes b.grants = byte2 (b.grants.get 0) ++ byte2 (b.grants.get 1) ++ byte2 (b.grants.get 2) ++
      byte2 (b.grants.get 3) ++ byte2 (b.grants.get 4) ++ byte2 (b.grants.get 5) ++ byte2 (b.grants.get 6) ++
      byte2 (b.grants.get 7) := rfl
  rw [Budget.copy, hgrants, ← htrip]
  simp only [byteB_eq, List.append_assoc]

theorem keepIf_true (l : List Byte) : keepIf true l = l := rfl

theorem keepIf_zero (l : List Byte) : keepIf ((0 : Nat) == 0) l = l := rfl

theorem keepIf_false (l : List Byte) : keepIf false l = [] := rfl

theorem poleCopy_of_out {n : Nat} (h : 2 ≤ n) : s.poleCopy n = [] := by
  obtain ⟨j, rfl⟩ : ∃ j, n = j + 2 := ⟨n - 2, by omega⟩
  rfl

theorem slateCopy_some {n : Nat} {e : SlateEntry} (h : s.slate.entries[n]? = some e) : s.slateCopy n = e.copy := by
  rw [State.slateCopy, h]

theorem slateCopy_of_out {n : Nat} (h : s.slate.entries.length ≤ n) : s.slateCopy n = [] := by
  rw [State.slateCopy, List.getElem?_eq_none h]

theorem settingCopy_some {n v : Nat} (h : s.port.settings.get n = some v) : s.settingCopy n = byte2 v := by
  rw [State.settingCopy, h]

theorem settingCopy_none {n : Nat} (h : s.port.settings.get n = none) : s.settingCopy n = [] := by
  rw [State.settingCopy, h]

end Copies

section Items

variable {s : State} (n : Nat)

theorem copied_peer : copied s 0 n = copyAt n (fun i => (s.view.entries.get i).copy) := rfl
theorem copied_pole : copied s 1 n = keepIf s.isPole (s.poleCopy n) := rfl
theorem copied_budget : copied s 2 n = keepIf (n == 0) (s.budget.copy s.ownGrant) := rfl
theorem copied_feeder : copied s 3 n = keepIf s.isAux (copyAt n s.feederCopy) := rfl
theorem copied_slate : copied s 4 n = keepIf s.isCab (s.slateCopy n) := rfl
theorem copied_result : copied s 5 n = copyAt n (fun i => (s.scan.results.get i).copy) := rfl
theorem copied_summary : copied s 6 n = keepIf (n == 0) (byte2 s.summaryWord.toNat) := rfl
theorem copied_ceil : copied s 7 n = keepIf (s.hasCeiling && n == 0) s.ceil.copy := rfl
theorem copied_setting : copied s 8 n = s.settingCopy n := rfl

end Items

/-- Settles O47: the copy of each item, byte by byte. -/
theorem snapshotCopiesTheRecord : Obligations.SnapshotCopiesTheRecord := by
  intro item index s q n b1 b2 flag poleCopy
  refine ⟨fun h => exec_snapshot_none (copyOf_of_large h), fun h => ⟨_, exec_snapshot_some (copyOf_of_small h), ?_⟩⟩
  have hpole : ∀ x : PoleRec, x.copy = poleCopy x := by
    rintro ⟨st, dropped, unacked, ackable, stamp⟩
    rw [poleRec_copy]
    rcases st with _ | _ | l | _ | ⟨g, l⟩ | ⟨_ | _⟩ | ⟨_ | _⟩ <;> rfl
  refine ⟨?_, ?_, ?_, ?_, ?_, ?_, ?_, ?_, ?_, ?_, ?_, ?_, ?_, ?_, ?_, ?_, ?_, ?_, ?_⟩
  all_goals rintro rfl
  · intro k hk e
    refine (copied_peer n).trans ?_
    rw [hk, copyAt_val, PeerEntry.copy, byteB_eq, alarmsByte_eq]
    rfl
  · exact fun hn => (copied_peer n).trans (copyAt_of_out _ hn)
  · intro hp hn
    refine (copied_pole n).trans ?_
    rw [hp, hn]
    exact hpole s.pole.pos
  · intro hp hn
    refine (copied_pole n).trans ?_
    rw [hp, hn]
    exact hpole s.pole.neg
  · rintro (hp | hn)
    · refine (copied_pole n).trans ?_
      rw [hp, keepIf_false]
    · refine (copied_pole n).trans ?_
      rw [poleCopy_of_out hn]
      exact ite_self _
  · intro hn b
    refine (copied_budget n).trans ?_
    rw [hn]
    rw [keepIf_zero, budget_copy]
    rfl
  · intro hn
    refine (copied_budget n).trans ?_
    rw [beq_false_of_ne hn, keepIf_false]
  · intro ha k hk
    refine (copied_feeder n).trans ?_
    rw [ha, hk, copyAt_val, keepIf_true, State.feederCopy, byteB_eq]
    rfl
  · rintro (ha | hn)
    · refine (copied_feeder n).trans ?_
      rw [ha, keepIf_false]
    · refine (copied_feeder n).trans ?_
      rw [copyAt_of_out _ hn]
      exact ite_self _
  · intro hc e he
    refine (copied_slate n).trans ?_
    rw [hc, keepIf_true, slateCopy_some he]
    rfl
  · rintro (hc | hn)
    · refine (copied_slate n).trans ?_
      rw [hc, keepIf_false]
    · refine (copied_slate n).trans ?_
      rw [slateCopy_of_out hn]
      exact ite_self _
  · intro k hk c
    refine (copied_result n).trans ?_
    rw [hk, copyAt_val, ChanResult.copy]
    simp only [byteB_eq, shoeCode_eq]
    rfl
  · exact fun hn => (copied_result n).trans (copyAt_of_out _ hn)
  · intro hn
    refine (copied_summary n).trans ?_
    rw [hn]
    rfl
  · intro hn
    refine (copied_summary n).trans ?_
    rw [beq_false_of_ne hn, keepIf_false]
  · intro hc hn
    refine (copied_ceil n).trans ?_
    rw [hc, hn, Ceil.copy]
    simp only [byteB_eq]
    rfl
  · rintro (hc | hn)
    · refine (copied_ceil n).trans ?_
      rw [hc, Bool.false_and, keepIf_false]
    · refine (copied_ceil n).trans ?_
      rw [beq_false_of_ne hn, Bool.and_false, keepIf_false]
  · exact fun v hv => (copied_setting n).trans (settingCopy_some hv)
  · exact fun hv => (copied_setting n).trans (settingCopy_none hv)

end Sys2Proof.Proofs

/-! # A completed round: line engine and join state, grants, restart window (R13 to R41, R107 to R112, R142 to R152) -/

namespace Sys2Proof.Proofs

open Sys2Proof.Machine Sys2Proof.Laws

section Completed

variable {p : Pins} {s : State}

/-- The station of a completed round at this mid sample once the budget unit has acted (R58). -/
def evaluatedAt (p : Pins) (s : State) : State :=
  ((s.sense p).riseB.lineComplete (modeOfRun s.line.lowRun)).evalUpdate (recordRead s)

theorem evaluatedAt_eq (p : Pins) (s : State) :
    evaluatedAt p s = evaluated (s.sense p).riseB (modeOfRun s.line.lowRun) := rfl

/-- The station of a completed round at this mid sample before the layover step (R58, R178). -/
def actedAt (p : Pins) (s : State) : State := (evaluatedAt p s).actUpdate (recordRead s)

theorem completed_layover (p : Pins) (s : State) : completed p s = (actedAt p s).layoverStep (recordRead s) := rfl

/-- The line engine before the layover step (R13, R177). -/
theorem actedAt_line (p : Pins) (s : State) : (actedAt p s).line =
    { ({ s.line with driver := .highHalf, pdLift := false, lastMidHigh := p.pdHigh } : Line).complete
        (modeOfRun s.line.lowRun) s.port.settings.quietMs with
      layoverRead := (rxMarks s.line.rx).layover } := by
  rw [actedAt, evaluatedAt, actUpdate_line, lineComplete_line]
  rfl

/-- A station that stays awake keeps what the view update leaves, the layover count moved (R178). -/
theorem completed_awake (p : Pins) (h : staysAwake s) : completed p s = (actedAt p s).setLine
    { (actedAt p s).line with layoverCount := layoverNext s.line.layoverCount (rxMarks s.line.rx) } := by
  have hcount : (actedAt p s).line.layoverCount = s.line.layoverCount := by rw [actedAt_line]; rfl
  rw [completed_layover, layoverStep_awake, hcount]
  · rfl
  · rw [hcount]
    exact layoverNext_ne_two h

theorem evaluatedAt_frame (p : Pins) (s : State) : (evaluatedAt p s).straps = s.straps ∧
    (evaluatedAt p s).pins = p ∧ (evaluatedAt p s).ceil = s.ceil ∧ (evaluatedAt p s).arb = s.arb ∧
    (evaluatedAt p s).feed = s.feed ∧ (evaluatedAt p s).port.settings = s.port.settings ∧
    (evaluatedAt p s).port.demand = s.port.demand ∧
    (evaluatedAt p s).view = s.view.absorb (recordRead s) ∧ (evaluatedAt p s).slate = s.slate ∧
    (evaluatedAt p s).scan = s.scan ∧ (evaluatedAt p s).wakeDet = s.wakeDet ∧
    (evaluatedAt p s).pending = s.pending := by
  obtain ⟨hst, hpins, hceil, harb, hfeed, hset, hdem, hview, -⟩ :=
    evaluated_frame (s.sense p).riseB (modeOfRun s.line.lowRun)
  refine ⟨hst, hpins, hceil, harb, hfeed, hset, hdem, hview, ?_, ?_, ?_, ?_⟩ <;>
    simp [evaluatedAt, State.riseB, State.sense]

theorem noticed_completed_iff (h : staysAwake s) (m : Notice) :
    noticed (completed p s) m ↔ noticed (actedAt p s) m := by
  rw [completed_awake p h, noticed_setLine]

theorem completed_congr (p : Pins) (h : staysAwake s) : (completed p s).budget = (evaluatedAt p s).budget ∧
    (completed p s).ownGrant = (evaluatedAt p s).ownGrant ∧ (completed p s).arb = (actedAt p s).arb ∧
    (completed p s).ceil = (actedAt p s).ceil ∧ (completed p s).feed = (actedAt p s).feed ∧
    (completed p s).slate = (actedAt p s).slate ∧ (completed p s).port = (actedAt p s).port := by
  rw [completed_awake p h]
  generalize { (actedAt p s).line with layoverCount := _ } = l
  refine ⟨by simp [actedAt], ownGrant_congr _ _ (by simp [actedAt]) (by simp [actedAt]), State.setLine_arb _ _,
    State.setLine_ceil _ _, State.setLine_feed _ _, State.setLine_slate _ _, State.setLine_port _ _⟩

end Completed

section LineAndJoin

variable {p : Pins} {s : State}

/-- The line engine after a completed round of a station that stays awake (R13, R33, R41, R178). -/
theorem completed_line (p : Pins) (h : staysAwake s) : (completed p s).line = { s.line with
    driver := .highHalf, pdLift := false, lastMidHigh := p.pdHigh, phase := .recovery, recBeat := 1
    mode := modeOfRun s.line.lowRun, lowRun := 0, discards := 0, keepalive := some s.port.settings.quietMs
    takesPart := false, droveFrame := false, roundCount := rxCount s.line.rx + 1
    layoverRead := (rxMarks s.line.rx).layover
    layoverCount := layoverNext s.line.layoverCount (rxMarks s.line.rx)
    join := s.line.joinDone, heard := s.line.heardDone, backoff := s.line.backoffDone } := by
  rw [completed_awake p h, State.setLine_line, actedAt_line]
  rfl

theorem noticed_absorb {r : RoundRecord} {m : Notice} (h : noticed s m) (hk : m.kind ≠ .peer) :
    noticed (s.absorb r) m := noticed_notifyAll (.inr hk) h

/-- The LINE notice of the join state's move stands after the completed round (R23, R36, R38). -/
theorem noticed_completed_line {a v : Nat} (p : Pins) (h : staysAwake s) (hm : (a, v) ∈ s.line.doneNote) :
    noticed (completed p s) ⟨.line, a, v, (rxCount s.line.rx + 1).toNat⟩ := by
  refine noticed_completed p h rfl (noticed_absorb ?_ (by simp))
  rw [State.lineComplete]
  exact noticed_ite (noticed_notifyAll_of_mem rfl hm) (noticed_notifyAll_of_mem rfl hm)

theorem lineComplete_lineUp (s : State) (m : Mode) :
    (s.lineComplete m).port.lineUp = (s.port.lineUp || s.roleAssigned) := by
  have hrole : ∀ l, (s.setLine l).roleAssigned = s.roleAssigned := fun _ => rfl
  simp only [State.lineComplete]
  split <;> simp [hrole] <;> rfl

theorem portKept_completed (p : Pins) (h : staysAwake s) :
    portKept s (completed p s) (s.port.lineUp || s.roleAssigned) := by
  obtain ⟨-, -, -, -, -, -, hport⟩ := completed_congr p h
  rw [portKept_iff, hport]
  have hup : (actedAt p s).port.lineUp = (s.port.lineUp || s.roleAssigned) := by
    have hline := lineComplete_lineUp (s.sense p).riseB (modeOfRun s.line.lowRun)
    simp only [actedAt, evaluatedAt, actUpdate_frame, evalUpdate_frame, hline]
    rfl
  rw [hup]
  simp [actedAt, evaluatedAt, State.riseB, State.sense]

/-- A completion leaves limp with CLASHED and LINE_DOWN (R124). -/
theorem completed_leaves_limp (p : Pins) (h : staysAwake s) (hd : s.line.joinDone = .listen)
    (hj : s.line.join = .clashed ∨ s.line.join = .lineDown) : (completed p s).budget.limp = false := by
  obtain ⟨hbud, -⟩ := completed_congr p h
  have hleave : (s.sense p).riseB.line.leavesLimp = true := by
    have hline : s.line.leavesLimp = true := by
      rw [Line.leavesLimp, hd]
      rcases hj with hj | hj <;> rw [hj] <;> rfl
    exact hline
  have hdone : (s.sense p).riseB.line.joinDone.sending = false := by
    have hline : s.line.joinDone.sending = false := by rw [hd]; rfl
    exact hline
  rw [hbud, evaluatedAt_eq, evaluated_budget_of_not_sending hdone, if_pos hleave]

theorem joinDone_clashed {l : Line} (h : l.join = .clashed) (hb : l.backoff < 15) :
    l.joinDone = .clashed ∧ l.heardDone = l.heard ∧ l.backoffDone = l.backoff + 1 := by
  have hlt : l.backoff + 1 < Config.backoffRounds := by simp only [Config.backoffRounds]; omega
  simp [Line.joinDone, Line.heardDone, Line.backoffDone, h, hlt]

theorem joinDone_backed_off {l : Line} (h : l.join = .clashed) (hb : 15 ≤ l.backoff) :
    l.joinDone = .listen ∧ l.heardDone = 0 ∧ l.doneNote = [(7, 16)] := by
  have hlt : ¬l.backoff + 1 < Config.backoffRounds := by simp only [Config.backoffRounds]; omega
  simp [Line.joinDone, Line.heardDone, Line.doneNote, h, hlt]

theorem completed_scan (p : Pins) (h : staysAwake s) : (completed p s).scan = s.scan ∧
    (completed p s).wakeDet = s.wakeDet ∧ (completed p s).straps = s.straps ∧ (completed p s).pins = p ∧
    (completed p s).pending = s.pending := by
  obtain ⟨hst, hpins, -, -, -, -, -, -, -, hscan, hdet, hpend⟩ := evaluatedAt_frame p s
  rw [completed_awake p h]
  simp [actedAt, hst, hpins, hscan, hdet, hpend]

theorem slateUpdate_of_not_cab {r : RoundRecord} (h : s.isCab = false) : s.slateUpdate r = s := if_neg (by simp [h])

theorem actUpdate_slate (s : State) (r : RoundRecord) : (s.actUpdate r).slate = (ownersActed s r).slate := by
  simp [actUpdate_eq, ceilingActed]

theorem actedAt_slate_of_not_cab (p : Pins) (h : s.isCab = false) : (actedAt p s).slate = s.slate := by
  obtain ⟨hst, -, -, -, -, -, -, -, hslate, -⟩ := evaluatedAt_frame p s
  have hcab : (((evaluatedAt p s).arbUpdate (recordRead s)).poleUpdate (recordRead s)).isCab = false := by
    rw [isCab_congr (s := s) (by simp [hst]), h]
  rw [actedAt, actUpdate_slate, ownersActed, slateUpdate_of_not_cab hcab]
  simp [hslate]

end LineAndJoin

/-- Settles O19: the line engine of the completion, the join state's move by its table, and what the blocks leave. -/
theorem completionMovesLineAndJoin : Obligations.CompletionMovesLineAndJoin := by
  intro i p s hrow hawake m n
  have hline := completed_line p hawake
  obtain ⟨-, hhigh, -⟩ := id hrow
  rw [hhigh] at hline
  have hjoin : (completed p s).line.join = s.line.joinDone := by rw [hline]
  have hheard : (completed p s).line.heard = s.line.heardDone := by rw [hline]
  have hback : (completed p s).line.backoff = s.line.backoffDone := by rw [hline]
  obtain ⟨hscan, hdet, hst, hpins, hpend⟩ := completed_scan p hawake
  obtain ⟨-, -, -, hceil, hfeed, hslate, -⟩ := completed_congr p hawake
  obtain ⟨hst', -, hceil', -, hfeed', -⟩ := evaluatedAt_frame p s
  refine ⟨_, exec_completionRow hrow, ?_, fun hj => ?_, fun hj => ?_, fun hj => ?_, fun hj hb => ?_, fun hj hb => ?_,
    fun hj => ?_, portKept_completed p hawake, hscan, hdet, fun hc => ?_, fun ha => ?_, fun hc => ?_, hst, hpins,
    hpend⟩
  · rw [hjoin, hheard, hback]
    exact hline
  · rw [hjoin, hheard, hback]
    simp [Line.joinDone, Line.heardDone, Line.backoffDone, hj]
  · rw [hjoin, hheard, hback]
    refine ⟨by simp [Line.joinDone, hj], by simp [Line.heardDone, hj], by simp [Line.backoffDone, hj],
      noticed_completed_line p hawake ?_⟩
    simp [Line.doneNote, hj]
  · rw [hjoin, hheard, hback]
    simp [Line.joinDone, Line.heardDone, Line.backoffDone, hj]
  · rw [hjoin, hheard, hback]
    exact joinDone_clashed hj hb
  · obtain ⟨hd, hh, hnote⟩ := joinDone_backed_off hj hb
    rw [hjoin, hheard]
    exact ⟨hd, hh, completed_leaves_limp p hawake hd (.inl hj),
      noticed_completed_line p hawake (by simp [hnote])⟩
  · have hd : s.line.joinDone = .listen := by simp [Line.joinDone, hj]
    rw [hjoin, hheard, hback]
    refine ⟨hd, by simp [Line.heardDone, hj], by simp [Line.backoffDone, hj],
      completed_leaves_limp p hawake hd (.inr hj), noticed_completed_line p hawake ?_⟩
    simp [Line.doneNote, hj]
  · rw [hceil, actedAt, actUpdate_ceil_of_not, hceil']
    rw [hasCeiling_congr hst', hc]
  · rw [hfeed, actedAt, actUpdate_feed_of_not_aux, hfeed']
    rw [isAux_congr hst', ha]
  · rw [hslate, actedAt_slate_of_not_cab p hc]

/-- Settles O23: the allotment makes up the availability and stays within the adopted claims. -/
theorem grantsStayWithinAvailabilityAndClaims : Obligations.GrantsStayWithinAvailabilityAndClaims := by
  intro i p s hrow hawake hj
  have hbud := completed_budget_of_sending p hawake hj
  refine ⟨_, exec_completionRow hrow, ?_, ?_, ?_, fun k => ?_⟩
  · rw [hbud]
    rfl
  · rw [hbud]
    exact allot_sum _ _
  · rw [hbud]
    exact allot_sum_le _ _
  · rw [hbud]
    exact allot_get_le _ _ _

end Sys2Proof.Proofs

/-! # The restart window at a completed round (R142 to R147, R150 to R152) -/

namespace Sys2Proof.Proofs

open Sys2Proof.Machine Sys2Proof.Laws

section Arbiter

variable {s : State} {r : RoundRecord} {a : ArbAct} {n : Notice}

/-- The arbiter after an act that has this outcome (R142, R150). -/
theorem arbActed_of (h : s.arbAct r = a) : arbActed s r =
    ⟨waitedAfter s.arb.waited a.event.isTaken r.keySent, a.window, a.holder.getD (holderOfRound r s.arb.holder)⟩ := by
  rw [arbActed, h]

theorem noticed_windowNotice_some {before : Holder} {x v st : Nat} :
    noticed (s.windowNotice before (some (x, v)) st) ⟨.window, x, v, st⟩ := noticed_notify_self _ _ _ _ _

theorem noticed_windowNotice_none {before : Holder} {st : Nat} (h : s.arb.holder ≠ before) :
    noticed (s.windowNotice before none st) ⟨.window, s.arb.holder.subject, s.arb.holder.code, st⟩ := by
  rw [State.windowNotice, if_neg h]
  exact noticed_notify_self _ _ _ _ _

/-- The WINDOW notice of the own window's event (R151). -/
theorem noticed_arbUpdate_event {x v : Nat} (h : s.arbAct r = a) (hn : a.note = some (x, v)) :
    noticed (s.arbUpdate r) ⟨.window, x, v, r.stamp⟩ := by
  subst h
  simp only [State.arbUpdate, hn]
  exact noticed_windowNotice_some

/-- The WINDOW notice of a holder seen anew (R151). -/
theorem noticed_arbUpdate_holder (h : s.arbAct r = a) (hn : a.note = none)
    (hne : a.holder.getD (holderOfRound r s.arb.holder) ≠ s.arb.holder) : noticed (s.arbUpdate r)
    ⟨.window, (a.holder.getD (holderOfRound r s.arb.holder)).subject,
      (a.holder.getD (holderOfRound r s.arb.holder)).code, r.stamp⟩ := by
  subst h
  simp only [State.arbUpdate, hn]
  exact noticed_windowNotice_none hne

/-- What the arbiter tells stands once the other blocks have acted. -/
theorem noticed_actUpdate_of_arb (hn : n.kind ≠ .ceiling) (h : noticed (s.arbUpdate r) n) :
    noticed (s.actUpdate r) n :=
  noticed_regenUpdate (noticed_feederUpdate (noticed_ceilingUpdate hn (noticed_slateUpdate (noticed_poleUpdate h))))

theorem heldAct_waits {w : Window} (h : r.asserted.inrush = false) : heldAct w r = ⟨some w, .held, none, none⟩ :=
  if_neg (by simp [h])

theorem heldAct_abandons {w : Window} (h : r.asserted.inrush = true) (hs : r.marks.abandons = true) :
    heldAct w r = ⟨none, .abandoned w.feeder, some (2, 256 * (w.len - w.left + 1) + 9), some .free⟩ := by
  rw [heldAct, if_pos h, if_pos hs]

theorem heldAct_runs {w : Window} (h : r.asserted.inrush = true) (hs : r.marks.abandons = false) (hl : 1 < w.left) :
    heldAct w r = ⟨some { w with left := w.left - 1 }, .held, none, none⟩ := by
  rw [heldAct, if_pos h, if_neg (by simp [hs]), if_pos hl]

theorem heldAct_ends {w : Window} (h : r.asserted.inrush = true) (hs : r.marks.abandons = false)
    (hl : w.left ≤ 1) : heldAct w r = ⟨none, .ended w.feeder, some (1, 256 * w.len + 9), some .free⟩ := by
  rw [heldAct, if_pos h, if_neg (by simp [hs]), if_neg (by omega)]

theorem arbAct_held {w : Window} (h : s.arb.window = some w) : s.arbAct r = heldAct w r := by
  rw [State.arbAct, h]

theorem arbAct_lost (h : s.arb.window = none) (hm : s.mayTake r = false) : s.arbAct r = noAct := by
  rw [State.arbAct, h]
  exact if_neg (by simp [hm])

theorem arbAct_won (h : s.arb.window = none) (hm : s.mayTake r = true) : s.arbAct r = s.winAct := by
  rw [State.arbAct, h]
  exact if_pos hm

theorem winAct_of_not_aux (h : s.isAux = false) : s.winAct = takeAct s.port.settings.rampWindow none :=
  if_neg (by simp [h])

theorem winAct_of_fits {k : Fin 8} (h : s.isAux = true) (hk : s.nextFeeder = some k)
    (hf : s.energizedSum + s.port.settings.nominal.get k ≤ s.ownGrant) :
    s.winAct = takeAct (s.port.settings.inrush.get k) (some k) := by
  rw [State.winAct, if_pos h, hk]
  exact if_pos (by simpa [State.fits] using hf)

theorem winAct_declines (h : s.isAux = true)
    (hf : ∀ k, s.nextFeeder = some k → ¬(s.energizedSum + s.port.settings.nominal.get k ≤ s.ownGrant)) :
    s.winAct = declineAct := by
  rw [State.winAct, if_pos h]
  cases hk : s.nextFeeder with
  | none => rfl
  | some k => exact if_neg (by simpa [State.fits] using hf k hk)

end Arbiter

section Completed

variable {p : Pins} {s : State} {a : ArbAct}

theorem completed_arb (h : staysAwake s) (ha : (evaluatedAt p s).arbAct (recordRead s) = a) :
    (completed p s).arb = ⟨waitedAfter s.arb.waited a.event.isTaken s.line.image.key, a.window,
      a.holder.getD (holderOfRound (recordRead s) s.arb.holder)⟩ := by
  obtain ⟨-, -, harb, -⟩ := completed_congr p h
  obtain ⟨-, -, -, harb', -⟩ := evaluatedAt_frame p s
  rw [harb, actedAt, actUpdate_arb, arbActed_of ha, harb']
  rfl

theorem noticed_completed_event {x v : Nat} (h : staysAwake s) (ha : (evaluatedAt p s).arbAct (recordRead s) = a)
    (hn : a.note = some (x, v)) : noticed (completed p s) ⟨.window, x, v, (rxCount s.line.rx).toNat⟩ :=
  (noticed_completed_iff h _).2 (noticed_actUpdate_of_arb (by simp) (noticed_arbUpdate_event ha hn))

theorem mayTake_completed (p : Pins) (s : State) : (evaluatedAt p s).mayTake (recordRead s) = true ↔
    s.contends = true ∧ s.line.image.key ≠ 0 ∧ s.line.keyIn = true ∧ (rxMarks s.line.rx).clean = true ∧
      (s.line.join = .joining ∨ s.line.join = .joined) := by
  obtain ⟨hst, -⟩ := evaluatedAt_frame p s
  have hjoin : s.line.joinDone.sending = true ↔ s.line.join = .joining ∨ s.line.join = .joined := by
    cases hj : s.line.join with
    | clashed =>
      simp only [Line.joinDone, hj]
      split <;> simp [JoinState.sending]
    | _ => simp [Line.joinDone, JoinState.sending, hj]
  have hkey : (recordRead s).keyWon = (decide (s.line.image.key ≠ 0) && s.line.keyIn) := rfl
  have hdone : (recordRead s).join = s.line.joinDone := rfl
  rw [mayTake_iff, contends_congr hst, hkey, hdone, hjoin, Bool.and_eq_true, decide_eq_true_iff, and_assoc]
  rfl

/-- What an AUX reads of its feeders at the win is what they were before the round (R144). -/
theorem evaluatedAt_feeders (p : Pins) (s : State) : (evaluatedAt p s).nextFeeder = s.nextFeeder ∧
    (evaluatedAt p s).energizedSum = s.energizedSum ∧ (evaluatedAt p s).isAux = s.isAux ∧
    (evaluatedAt p s).port.settings = s.port.settings ∧ (evaluatedAt p s).arb = s.arb := by
  obtain ⟨hst, -, -, harb, hfeed, hset, -⟩ := evaluatedAt_frame p s
  exact ⟨by rw [State.nextFeeder, hfeed]; rfl, energizedSum_congr hfeed (by rw [hset]), isAux_congr hst, hset, harb⟩

end Completed

/-- Settles O24: the arbiter's act by its table, read off the completed state. -/
theorem restartWindowAtACompletion : Obligations.RestartWindowAtACompletion := by
  intro i p s hrow hawake m n stops clean wins seen more
  have hwins : (evaluatedAt p s).mayTake (recordRead s) = true ↔ wins := mayTake_completed p s
  have hseen : holderOfRound (recordRead s) s.arb.holder = seen := rfl
  have hmore : waitedAfter s.arb.waited false s.line.image.key = more := rfl
  obtain ⟨hnext, hsum, haux, hset, harb⟩ := evaluatedAt_feeders p s
  obtain ⟨-, hown, -⟩ := completed_congr p hawake
  refine ⟨_, exec_completionRow hrow, fun w hw => ?_, fun hw => ?_⟩
  · have hact : (evaluatedAt p s).arbAct (recordRead s) = heldAct w (recordRead s) :=
      arbAct_held (by rw [harb]; exact hw)
    refine ⟨fun hi => ?_, fun hi hs => ?_, fun hi hs hl => ?_, fun hi hs hl => ?_⟩
    · exact completed_arb hawake (hact.trans (heldAct_waits hi))
    · have ha := hact.trans (heldAct_abandons hi hs)
      exact ⟨completed_arb hawake ha, noticed_completed_event hawake ha rfl⟩
    · exact completed_arb hawake (hact.trans (heldAct_runs hi hs hl))
    · have ha := hact.trans (heldAct_ends hi hs hl)
      exact ⟨completed_arb hawake ha, noticed_completed_event hawake ha rfl⟩
  · have hnone : (evaluatedAt p s).arb.window = none := by rw [harb]; exact hw
    refine ⟨fun hl => ?_, fun hwin ha => ?_, fun hwin ha k hk hf => ?_, fun hwin ha hf => ?_⟩
    · have hact := arbAct_lost hnone (Bool.eq_false_iff.2 (mt hwins.1 hl))
      refine ⟨completed_arb hawake hact, fun hne => (noticed_completed_iff hawake _).2 ?_⟩
      have hnote := noticed_arbUpdate_holder hact rfl (by rw [harb]; exact hne)
      rw [harb] at hnote
      exact noticed_actUpdate_of_arb (by simp) hnote
    · have hact := (arbAct_won hnone (hwins.2 hwin)).trans (winAct_of_not_aux (by rw [haux, ha]))
      rw [hset] at hact
      exact ⟨completed_arb hawake hact, noticed_completed_event hawake hact rfl⟩
    · have hact := (arbAct_won hnone (hwins.2 hwin)).trans (winAct_of_fits (k := k) (by rw [haux, ha])
        (by rw [hnext, hk]) (by rw [hsum, hset, ← hown]; exact hf))
      rw [hset] at hact
      exact ⟨completed_arb hawake hact, noticed_completed_event hawake hact rfl⟩
    · have hact := (arbAct_won hnone (hwins.2 hwin)).trans (winAct_declines (by rw [haux, ha])
        (fun k hk => by rw [hsum, hset, ← hown]; exact hf k (by rw [← hnext, hk])))
      exact ⟨completed_arb hawake hact, noticed_completed_event hawake hact rfl⟩

end Sys2Proof.Proofs

/-! # The ceiling at a completed round (R128 to R130, R133, R135, R137) -/

namespace Sys2Proof.Proofs

open Sys2Proof.Machine Sys2Proof.Laws

section Events

variable {s : State} {r : RoundRecord}

/-- What the event handed on says of the window before and after the arbiter's act (R144 to R147). -/
structure EventOf (before after : Option Window) (abandons : Bool) (e : WindowEvent) : Prop where
  taken : e.isTaken = true ↔ before = none ∧ after ≠ none
  abandoned : e.isAbandoned = true ↔ (before ≠ none ∧ after = none) ∧ abandons = true
  ended : e.isEnded = true ↔ (before ≠ none ∧ after = none) ∧ abandons = false

@[simp] theorem isTaken_iff (e : WindowEvent) : e.isTaken = true ↔ ∃ f, e = .taken f := by
  cases e <;> simp [WindowEvent.isTaken]

@[simp] theorem isEnded_iff (e : WindowEvent) : e.isEnded = true ↔ ∃ f, e = .ended f := by
  cases e <;> simp [WindowEvent.isEnded]

@[simp] theorem isAbandoned_iff (e : WindowEvent) : e.isAbandoned = true ↔ ∃ f, e = .abandoned f := by
  cases e <;> simp [WindowEvent.isAbandoned]

theorem heldAct_event (w : Window) (r : RoundRecord) :
    EventOf (some w) (heldAct w r).window r.marks.abandons (heldAct w r).event := by
  cases hi : r.asserted.inrush with
  | false =>
    rw [heldAct_waits hi]
    constructor <;> simp
  | true =>
    cases hs : r.marks.abandons with
    | true =>
      rw [heldAct_abandons hi hs]
      constructor <;> simp
    | false =>
      by_cases hl : 1 < w.left
      · rw [heldAct_runs hi hs hl]
        constructor <;> simp
      · rw [heldAct_ends hi hs (by omega)]
        constructor <;> simp

theorem arbAct_event (s : State) (r : RoundRecord) :
    EventOf s.arb.window (s.arbAct r).window r.marks.abandons (s.arbAct r).event := by
  cases hw : s.arb.window with
  | some w => rw [arbAct_held hw]; exact heldAct_event w r
  | none =>
    have hmove := arbAct_move s r
    rw [hw] at hmove
    generalize (s.arbAct r).window = w at hmove ⊢
    generalize (s.arbAct r).event = e at hmove ⊢
    cases hmove with
    | none => constructor <;> simp
    | taken x => constructor <;> simp

end Events

section Act

variable {c : Ceil} {d g step : Nat} {cut : Bool} {e : WindowEvent}

/-- A take leaves the ceiling and moves the state only (R129). -/
theorem takeMove_eq (c : Ceil) (d g : Nat) (e : WindowEvent) : c.takeMove d g e = { c with
    st := if e.isTaken = true ∧ c.st = .waiting ∧ 0 < d ∧ 0 < g then .ramping else c.st } := by
  unfold Ceil.takeMove
  split <;> rfl

/-- The state once a take has moved it. -/
def takenState (c : Ceil) (d g : Nat) (e : WindowEvent) : CeilState := (c.takeMove d g e).st

theorem endMove_of_not_ramping (h : c.st ≠ .ramping) : c.endMove d g e = c := if_neg fun ⟨_, hr⟩ => h hr

theorem endMove_ceiling (c : Ceil) (d g : Nat) (e : WindowEvent) :
    (c.endMove d g e).ceiling = c.ceiling ∧ (c.endMove d g e).cutHeld = c.cutHeld := by
  unfold Ceil.endMove
  split <;> exact ⟨rfl, rfl⟩

theorem endMove_st (c : Ceil) (d g : Nat) (e : WindowEvent) : (c.endMove d g e).st =
    if e.isEnded = true ∧ c.st = .ramping then (if 0 < c.ceiling then .running else zeroState d g) else c.st := by
  unfold Ceil.endMove
  split <;> rfl

theorem zeroState_ne_ramping (d g : Nat) : zeroState d g ≠ .ramping := by
  unfold zeroState
  split <;> simp

theorem act_of_cut (h : cut = true) : (c.act d g step cut e).ceiling = 0 ∧
    (c.act d g step cut e).st = .heldZero ∧ (c.act d g step cut e).cutHeld = true := by
  rw [Ceil.act, Ceil.fitCase, if_pos h, endMove_of_not_ramping (by simp [Ceil.cutCase])]
  exact ⟨rfl, rfl, rfl⟩

theorem act_cutHeld (h : cut = false) : (c.act d g step cut e).cutHeld = false := by
  obtain ⟨-, hcut⟩ := endMove_ceiling ((c.takeMove d g e).fitCase d g step cut e) d g e
  rw [Ceil.act, hcut, Ceil.fitCase, if_neg (by simp [h])]
  split
  · rfl
  · split
    · rfl
    · split <;> rfl

theorem act_of_abandoned (h : cut = false) (ha : e.isAbandoned = true) :
    (c.act d g step cut e).ceiling = 0 ∧ (c.act d g step cut e).st = zeroState d g := by
  rw [Ceil.act, Ceil.fitCase, if_neg (by simp [h]), if_pos ha,
    endMove_of_not_ramping (by exact zeroState_ne_ramping d g)]
  exact ⟨rfl, rfl⟩

/-- The fall case (R129). -/
theorem act_of_fall (h : cut = false) (ha : e.isAbandoned = false) (hg : g < c.ceiling) (hpos : 0 < g) :
    (c.act d g step cut e).ceiling = g ∧ (c.act d g step cut e).st =
      if e.isEnded = true ∧ takenState c d g e = .ramping then .running else takenState c d g e := by
  have hfit : (c.takeMove d g e).fitCase d g step cut e = (c.takeMove d g e).fallCase d g := by
    rw [Ceil.fitCase, if_neg (by simp [h]), if_neg (by simp [ha]), if_pos (by rw [takeMove_eq]; exact hg)]
  have hne : g ≠ 0 := by omega
  obtain ⟨hc, -⟩ := endMove_ceiling ((c.takeMove d g e).fallCase d g) d g e
  rw [Ceil.act, hfit, hc, endMove_st]
  simp only [Ceil.fallCase, if_neg hne, if_pos hpos, takenState]
  trivial

theorem act_of_fall_zero (h : cut = false) (ha : e.isAbandoned = false) (hg : g < c.ceiling) (hz : g = 0) :
    (c.act d g step cut e).ceiling = 0 ∧ (c.act d g step cut e).st = .heldZero := by
  have hfit : (c.takeMove d g e).fitCase d g step cut e = (c.takeMove d g e).fallCase d g := by
    rw [Ceil.fitCase, if_neg (by simp [h]), if_neg (by simp [ha]), if_pos (by rw [takeMove_eq]; exact hg)]
  obtain ⟨hc, -⟩ := endMove_ceiling ((c.takeMove d g e).fallCase d g) d g e
  rw [Ceil.act, hfit, hc, endMove_st]
  simp [Ceil.fallCase, hz, zeroState]

/-- The rise case (R129). -/
theorem act_of_rise (h : cut = false) (ha : e.isAbandoned = false) (hg : c.ceiling ≤ g)
    (hm : takenState c d g e = .ramping ∨ takenState c d g e = .running) :
    (c.act d g step cut e).ceiling = min g (c.ceiling + step) ∧ (c.act d g step cut e).st =
      if e.isEnded = true ∧ takenState c d g e = .ramping then
        (if 0 < min g (c.ceiling + step) then .running else zeroState d g) else takenState c d g e := by
  have hceil : (c.takeMove d g e).ceiling = c.ceiling := by rw [takeMove_eq]
  have hmoving : (c.takeMove d g e).st.moving = true := by
    rcases hm with hm | hm <;> rw [show (c.takeMove d g e).st = _ from hm] <;> rfl
  have hfit : (c.takeMove d g e).fitCase d g step cut e = (c.takeMove d g e).riseCase g step := by
    rw [Ceil.fitCase, if_neg (by simp [h]), if_neg (by simp [ha]), if_neg (by rw [hceil]; omega), if_pos hmoving]
  obtain ⟨hc, -⟩ := endMove_ceiling ((c.takeMove d g e).riseCase g step) d g e
  rw [Ceil.act, hfit, hc, endMove_st]
  simp only [Ceil.riseCase, hceil]
  trivial

/-- The zero case (R129). -/
theorem act_of_rest (h : cut = false) (ha : e.isAbandoned = false) (hg : c.ceiling ≤ g)
    (hm : takenState c d g e = .waiting ∨ takenState c d g e = .heldZero) :
    (c.act d g step cut e).ceiling = 0 ∧ (c.act d g step cut e).st = zeroState d g := by
  have hceil : (c.takeMove d g e).ceiling = c.ceiling := by rw [takeMove_eq]
  have hstill : (c.takeMove d g e).st.moving = false := by
    rcases hm with hm | hm <;> rw [show (c.takeMove d g e).st = _ from hm] <;> rfl
  have hfit : (c.takeMove d g e).fitCase d g step cut e = (c.takeMove d g e).zeroCase d g := by
    rw [Ceil.fitCase, if_neg (by simp [h]), if_neg (by simp [ha]), if_neg (by rw [hceil]; omega),
      if_neg (by simp [hstill])]
  rw [Ceil.act, hfit, endMove_of_not_ramping (by exact zeroState_ne_ramping d g)]
  exact ⟨rfl, rfl⟩

end Act

section Completed

variable {p : Pins} {s : State}

/-- The budget unit's own overdraw check, trip output and last reading are not of the view update (R115 to R117). -/
theorem evaluatedAt_budget_kept (p : Pins) (s : State) :
    (evaluatedAt p s).budget.ownOverdraw = s.budget.ownOverdraw ∧ (evaluatedAt p s).budget.trip = s.budget.trip ∧
      (evaluatedAt p s).budget.lastI = s.budget.lastI := by
  have hline : ((s.sense p).riseB.lineComplete (modeOfRun s.line.lowRun)).budget =
      if s.line.leavesLimp then { s.budget with limp := false } else s.budget := lineComplete_budget _ _
  rw [evaluatedAt_eq, evaluated_budget, hline]
  split <;> split <;> exact ⟨rfl, rfl, rfl⟩

theorem evaluatedAt_localCut (p : Pins) (s : State) :
    (evaluatedAt p s).localCut = (p.eCut || s.budget.ownOverdraw) := by
  obtain ⟨-, hpins, -⟩ := evaluatedAt_frame p s
  obtain ⟨hover, -⟩ := evaluatedAt_budget_kept p s
  rw [State.localCut, hpins, hover]

/-- The ceiling record of a station with a ceiling after the completed round (R129, R130, R135). -/
theorem completed_ceil (p : Pins) (h : staysAwake s) (hc : s.hasCeiling = true) :
    (completed p s).ceil = { ceilMoved (evaluatedAt p s) (recordRead s) with
      regenOk := if s.isDrive then !(rxMarks s.line.rx).regenBar && !(s.view.absorb (recordRead s)).lineOff
        else (ceilMoved (evaluatedAt p s) (recordRead s)).regenOk } := by
  obtain ⟨-, -, -, hceil, -⟩ := completed_congr p h
  obtain ⟨hst, -, -, -, -, -, -, hview, -⟩ := evaluatedAt_frame p s
  rw [hceil, actedAt, actUpdate_ceil (by rw [hasCeiling_congr hst, hc]), isDrive_congr hst, hview]
  rfl

theorem ceilMoved_of_limp {r : RoundRecord} (h : s.budget.limp = true) : ceilMoved s r =
    if r.marks.cut then ({ s.ceil with limpCut := r.marks.cut } : Ceil).cutCase
    else { s.ceil with limpCut := r.marks.cut } := if_pos h

/-- Outside limp the ceiling acts with the window event, on the own grant of the round (R129). -/
theorem ceilMoved_completed (p : Pins) (h : staysAwake s) (hl : (completed p s).budget.limp = false) :
    ceilMoved (evaluatedAt p s) (recordRead s) = s.ceil.act s.port.demand (completed p s).ownGrant
      s.port.settings.riseStep ((rxMarks s.line.rx).cut || p.eCut || s.budget.ownOverdraw)
      ((evaluatedAt p s).arbAct (recordRead s)).event := by
  obtain ⟨hbud, hown, -⟩ := completed_congr p h
  obtain ⟨-, -, hceil, -, -, hset, hdem, -⟩ := evaluatedAt_frame p s
  rw [hbud] at hl
  rw [ceilMoved, if_neg (by simp [hl]), hceil, hset, hdem, evaluatedAt_localCut, hown, recordRead_marks,
    Bool.or_assoc]

/-- A moved ceiling or ceiling state has its notice (R137). -/
theorem noticed_completed_ceiling (p : Pins) (h : staysAwake s) (hc : s.hasCeiling = true)
    (hmove : (completed p s).ceil.ceiling ≠ s.ceil.ceiling ∨ (completed p s).ceil.st ≠ s.ceil.st) :
    noticed (completed p s) ⟨.ceiling, (completed p s).ceil.st.code, (completed p s).ceil.ceiling,
      (rxCount s.line.rx).toNat⟩ := by
  obtain ⟨hst, -, hceil, -⟩ := evaluatedAt_frame p s
  have howned : (ownersActed (evaluatedAt p s) (recordRead s)).ceil = s.ceil := by
    obtain ⟨-, -, -, -, -, hkept, -⟩ := ownersActed_frame (evaluatedAt p s) (recordRead s)
    rw [hkept, hceil]
  rw [completed_ceil p h hc] at hmove ⊢
  rw [noticed_completed_iff h, actedAt, actUpdate_eq, ceilingActed_eq (by rw [hasCeiling_congr hst, hc])]
  exact noticed_regenUpdate (noticed_feederUpdate (noticed_putCeil_self (by rw [howned]; exact hmove)))

/-- What the event of the completed round says of the window before and after it. -/
theorem completed_event (p : Pins) (h : staysAwake s) : EventOf s.arb.window (completed p s).arb.window
    (rxMarks s.line.rx).abandons ((evaluatedAt p s).arbAct (recordRead s)).event := by
  obtain ⟨-, -, -, harb, -⟩ := evaluatedAt_frame p s
  have hevent := arbAct_event (evaluatedAt p s) (recordRead s)
  rw [completed_arb h rfl]
  rwa [harb] at hevent

end Completed

/-- Settles O25: the first case that fits moves the ceiling, with the window event of the same update. -/
theorem ceilingAtACompletion : Obligations.CeilingAtACompletion := by
  intro i p s hrow hawake hhas m stops cut d c
  refine ⟨_, exec_completionRow hrow, ?_⟩
  intro g took closed zero st high
  have hceil := completed_ceil p hawake hhas
  obtain ⟨-, -, hkept, -⟩ := evaluatedAt_frame p s
  obtain ⟨hbud, -⟩ := completed_congr p hawake
  refine ⟨fun hl => ?_, fun hl => ?_, noticed_completed_ceiling p hawake hhas, fun hd => ?_⟩
  · have hevent := completed_event p hawake
    rw [ceilMoved_completed p hawake hl] at hceil
    generalize ((evaluatedAt p s).arbAct (recordRead s)).event = e at hceil hevent
    obtain ⟨htaken, habandoned, hended⟩ := hevent
    rw [hceil]
    have hst : takenState c d g e = st := by
      rw [takenState, takeMove_eq]
      exact ite_congr (propext (and_congr_left' htaken)) (fun _ => rfl) (fun _ => rfl)
    have hclosed : ¬(closed ∧ stops = true) → e.isAbandoned = false ∧ (e.isEnded = true ↔ closed) := by
      intro hnot
      have hfree : closed → m.abandons = false := fun hw => by
        rw [← Bool.not_eq_true]
        exact fun hstop => hnot ⟨hw, hstop⟩
      exact ⟨Bool.not_eq_true _ ▸ fun ha => hnot (habandoned.1 ha),
        hended.trans ⟨fun ⟨hw, _⟩ => hw, fun hw => ⟨hw, hfree hw⟩⟩⟩
    refine ⟨act_of_cut, act_cutHeld, fun hcut hw hstop => act_of_abandoned hcut (habandoned.2 ⟨hw, hstop⟩),
      fun hcut hnot hlt hpos => ?_, fun hcut hnot => act_of_fall_zero hcut (hclosed hnot).1,
      fun hcut hnot hle hmove => ?_, fun hcut hnot hle hrest => ?_⟩
    · obtain ⟨ha, hiff⟩ := hclosed hnot
      obtain ⟨hto, hmoved⟩ := act_of_fall (step := s.port.settings.riseStep) hcut ha hlt hpos
      refine ⟨hto, hmoved.trans ?_⟩
      rw [hst]
      simp only [hiff]
    · obtain ⟨ha, hiff⟩ := hclosed hnot
      obtain ⟨hto, hmoved⟩ := act_of_rise (step := s.port.settings.riseStep) hcut ha hle (by rw [hst]; exact hmove)
      refine ⟨hto, hmoved.trans ?_⟩
      rw [hst]
      simp only [hiff]
      rfl
    · obtain ⟨ha, -⟩ := hclosed hnot
      exact act_of_rest hcut ha hle (by rw [hst]; exact hrest)
  · rw [hbud] at hl
    rw [ceilMoved_of_limp hl, hkept] at hceil
    rw [hceil]
    refine ⟨?_, fun hcut => ?_, fun hcut => ?_⟩
    · exact (apply_ite Ceil.limpCut _ _ _).trans (ite_self _)
    · rw [if_pos (by exact hcut)]
      exact ⟨rfl, rfl, rfl⟩
    · rw [if_neg (by simp [recordRead_marks, m, hcut])]
      exact ⟨rfl, rfl, rfl⟩
  · rw [hceil, completed_view p hawake, if_pos hd]

end Sys2Proof.Proofs

/-! # The feeder table at a completed round (R157 to R160, R163) -/

namespace Sys2Proof.Proofs

open Sys2Proof.Machine Sys2Proof.Laws

section Events

variable {s : State} {r : RoundRecord} {e : WindowEvent} {n : Nat}

/-- Which feeder the event handed on is of, by the window before and after the arbiter's act (R158). -/
structure FeederEventOf (before after : Option Window) (abandons : Bool) (e : WindowEvent) : Prop where
  taken : ∀ k, e = .taken (some k) ↔ before = none ∧ after.bind Window.feeder = some k
  ended : ∀ k, e = .ended (some k) ↔
    (after = none ∧ before.bind Window.feeder = some k) ∧ abandons = false
  abandoned : ∀ k, e = .abandoned (some k) ↔
    (after = none ∧ before.bind Window.feeder = some k) ∧ abandons = true

theorem WindowMove.feederEventOf {before after : Option Window} {abandons : Bool} (hm : WindowMove before after e)
    (he : EventOf before after abandons e) : FeederEventOf before after abandons e := by
  obtain ⟨-, habandoned, hended⟩ := he
  cases hm with
  | none => constructor <;> simp
  | held w w' h => constructor <;> simp
  | taken w => constructor <;> simp
  | ended w =>
    obtain ⟨-, hfree⟩ := hended.1 rfl
    constructor <;> simp [hfree]
  | abandoned w =>
    obtain ⟨-, hstop⟩ := habandoned.1 rfl
    constructor <;> simp [hstop]

theorem arbAct_feederEvent (s : State) (r : RoundRecord) :
    FeederEventOf s.arb.window (s.arbAct r).window r.marks.abandons (s.arbAct r).event :=
  (arbAct_move s r).feederEventOf (arbAct_event s r)

/-- The feeder a window is taken for is the next one, which waits (R146, R157). -/
theorem waiting_of_taken {k : Fin 8} (ha : s.isAux = true) (he : (s.arbAct r).event = .taken (some k)) :
    (s.feed.get k).st = .waiting := by
  obtain ⟨hbefore, -⟩ := ((arbAct_feederEvent s r).taken k).1 he
  cases hm : s.mayTake r with
  | false =>
    rw [arbAct_lost hbefore hm] at he
    exact absurd he (by simp [noAct])
  | true =>
    rw [arbAct_won hbefore hm] at he
    by_cases hfit : ∀ j, s.nextFeeder = some j →
        ¬(s.energizedSum + s.port.settings.nominal.get j ≤ s.ownGrant)
    · rw [winAct_declines ha hfit] at he
      exact absurd he (by simp [declineAct])
    · push Not at hfit
      obtain ⟨j, hnext, hle⟩ := hfit
      rw [winAct_of_fits ha hnext hle] at he
      have hjk : j = k := by simpa [takeAct] using he
      obtain ⟨hwait, -⟩ := nextFeeder_eq_some_iff.1 hnext
      rwa [hjk] at hwait

/-- The record of feeder k once the window event has moved it (R158). -/
def shifted (e : WindowEvent) (n : Nat) (k : Fin 8) (x : Feeder) : Feeder :=
  if e = .taken (some k) ∧ x.st = .waiting then { x with st := .inrush, stamp := n }
  else if e = .ended (some k) ∧ x.st = .inrush then { x with st := .on, stamp := n }
  else if e = .abandoned (some k) ∧ x.st = .inrush then { x with st := .waiting, stamp := n }
  else x

theorem shifted_taken {k : Fin 8} {x : Feeder} (h : x.st = .waiting) :
    shifted (.taken (some k)) n k x = { x with st := .inrush, stamp := n } := if_pos ⟨rfl, h⟩

theorem shifted_ended {k : Fin 8} {x : Feeder} (h : x.st = .inrush) :
    shifted (.ended (some k)) n k x = { x with st := .on, stamp := n } := by simp [shifted, h]

theorem shifted_abandoned {k : Fin 8} {x : Feeder} (h : x.st = .inrush) :
    shifted (.abandoned (some k)) n k x = { x with st := .waiting, stamp := n } := by simp [shifted, h]

theorem shifted_none {k : Fin 8} {x : Feeder} (ht : e ≠ .taken (some k))
    (hc : x.st = .inrush → e ≠ .ended (some k) ∧ e ≠ .abandoned (some k)) : shifted e n k x = x := by
  rw [shifted, if_neg (fun ⟨h, _⟩ => ht h), if_neg (fun ⟨h, hi⟩ => (hc hi).1 h),
    if_neg (fun ⟨h, hi⟩ => (hc hi).2 h)]

theorem moveFeeder_get (s : State) (j k : Fin 8) (d : FeederState) (c n : Nat) :
    (s.moveFeeder j d c n).feed.get k =
      if k = j then { s.feed.get k with st := d, stamp := n } else s.feed.get k := by
  rw [moveFeeder_feed, get_set]
  split
  · rename_i hk
    rw [hk]
  · rfl

theorem feederWindow_feed (s : State) (e : WindowEvent) (n : Nat) (k : Fin 8) :
    (s.feederWindow e n).feed.get k = shifted e n k (s.feed.get k) := by
  have move : ∀ (j : Fin 8) (c : FeederState) (d : FeederState) (x : Nat),
      (if (s.feed.get j).st = c then s.moveFeeder j d x n else s).feed.get k =
        if j = k ∧ (s.feed.get k).st = c then { s.feed.get k with st := d, stamp := n } else s.feed.get k := by
    intro j c d x
    by_cases hj : j = k
    · subst hj
      split <;> simp [*, moveFeeder_get]
    · split <;> simp [hj, Ne.symm hj, moveFeeder_get]
  rcases e with _ | ⟨_ | j⟩ | _ | ⟨_ | j⟩ | ⟨_ | j⟩
  case taken.some => simpa [State.feederWindow, shifted] using move j .waiting .inrush 1
  case ended.some => simpa [State.feederWindow, shifted] using move j .inrush .on 2
  case abandoned.some => simpa [State.feederWindow, State.feederBack, shifted] using move j .inrush .waiting 3
  all_goals simp [State.feederWindow, State.feederBack, shifted]

theorem noticed_feederWindow_taken {k : Fin 8} (h : (s.feed.get k).st = .waiting) :
    noticed (s.feederWindow (.taken (some k)) n) ⟨.feeder, k.val, 256 * 1 + 2, n⟩ := by
  rw [State.feederWindow, if_pos h]
  exact noticed_notify_self _ _ _ _ _

theorem noticed_feederWindow_ended {k : Fin 8} (h : (s.feed.get k).st = .inrush) :
    noticed (s.feederWindow (.ended (some k)) n) ⟨.feeder, k.val, 256 * 2 + 3, n⟩ := by
  rw [State.feederWindow, if_pos h]
  exact noticed_notify_self _ _ _ _ _

theorem noticed_feederWindow_abandoned {k : Fin 8} (h : (s.feed.get k).st = .inrush) :
    noticed (s.feederWindow (.abandoned (some k)) n) ⟨.feeder, k.val, 256 * 3 + 1, n⟩ := by
  rw [State.feederWindow, State.feederBack, if_pos h]
  exact noticed_notify_self _ _ _ _ _

end Events

section Cut

variable {s : State} {r : RoundRecord}

theorem windowMoved_frame : (windowMoved s r).straps = s.straps ∧ (windowMoved s r).pins = s.pins ∧
    (windowMoved s r).port.settings = s.port.settings ∧
    ∀ k, (windowMoved s r).feed.get k = shifted (s.arbAct r).event r.stamp k (s.feed.get k) := by
  obtain ⟨hst, hpins, -, -, -, hfeed, hset, -⟩ := ceilingActed_frame s r
  refine ⟨by simp [windowMoved, hst], by simp [windowMoved, hpins], by simp [windowMoved, hset], fun k => ?_⟩
  rw [windowMoved, feederWindow_feed, hfeed]

/-- The comfort cut acts at the round: a cut is read or held, and the AUX is of TIER 1 (R160). -/
def cutsComfort (s : State) (r : RoundRecord) : Prop :=
  (r.marks.cut = true ∨ s.pins.eCut = true) ∧ s.port.settings.tier = 1

theorem cutActed_of_cut (h : cutsComfort s r) : cutActed s r = (windowMoved s r).comfortCut r.stamp := by
  obtain ⟨hcut, -⟩ := h
  obtain ⟨-, hpins, -⟩ := windowMoved_frame (s := s) (r := r)
  exact if_pos (by simpa [hpins] using hcut)

theorem cutActed_of_no_cut (h : ¬cutsComfort s r) : cutActed s r = windowMoved s r := by
  obtain ⟨-, hpins, hset, -⟩ := windowMoved_frame (s := s) (r := r)
  rw [cutActed]
  split
  · rename_i hcut
    rw [hpins, Bool.or_eq_true] at hcut
    exact comfortCut_of_tier_ne (by rw [hset]; exact fun ht => h ⟨hcut, ht⟩)
  · rfl

theorem cutActed_feed_of_cut (ha : s.isAux = true) (h : cutsComfort s r) (k : Fin 8) :
    (cutActed s r).feed.get k = turnedOff r.stamp ((windowMoved s r).feed.get k) := by
  obtain ⟨hst, -, hset, -⟩ := windowMoved_frame (s := s) (r := r)
  obtain ⟨-, htier⟩ := id h
  rw [cutActed_of_cut h, comfortCut_feed (by rw [isAux_congr hst, ha]) (by rw [hset, htier])]

theorem noticed_cutActed_of_cut {k : Fin 8} (ha : s.isAux = true) (h : cutsComfort s r)
    (he : ((windowMoved s r).feed.get k).st.energized = true) :
    noticed (cutActed s r) ⟨.feeder, k.val, 256 * 5 + 1, r.stamp⟩ := by
  obtain ⟨hst, -, hset, -⟩ := windowMoved_frame (s := s) (r := r)
  obtain ⟨-, htier⟩ := id h
  rw [cutActed_of_cut h]
  exact noticed_comfortCut_self (by rw [isAux_congr hst, ha]) (by rw [hset, htier]) he

theorem noticed_cutActed {m : Notice} (h : noticed (windowMoved s r) m) : noticed (cutActed s r) m :=
  noticed_ite (noticed_comfortCut h) h

theorem noticed_actUpdate_of_shed {m : Notice} (ha : s.isAux = true) (hl : s.budget.limp = false)
    (h : noticed ((cutActed s r).shedToGrant r.stamp) m) : noticed (s.actUpdate r) m := by
  rw [actUpdate_eq, feederUpdate_eq ha hl]
  exact noticed_regenUpdate h

end Cut

section Completed

variable {p : Pins} {s : State}

theorem completed_feed_of_limp (p : Pins) (h : staysAwake s) (hl : (completed p s).budget.limp = true) :
    (completed p s).feed = s.feed := by
  obtain ⟨hbud, -, -, -, hfeed, -⟩ := completed_congr p h
  obtain ⟨-, -, -, -, hkept, -⟩ := evaluatedAt_frame p s
  rw [hfeed, actedAt, actUpdate_feed_of_limp (by rw [← hbud, hl]), hkept]

/-- Outside limp an AUX sheds to the own grant of the round after the window event and the cut (R157). -/
theorem completed_feed (p : Pins) (h : staysAwake s) (ha : s.isAux = true)
    (hl : (completed p s).budget.limp = false) :
    (completed p s).feed = shedTable s.port.settings.nominal (cutActed (evaluatedAt p s) (recordRead s)).feed
      (completed p s).ownGrant (rxCount s.line.rx).toNat := by
  obtain ⟨hbud, hown, -, -, hfeed, -⟩ := completed_congr p h
  obtain ⟨-, -, haux, hset, -⟩ := evaluatedAt_feeders p s
  obtain ⟨hst, -, hset'⟩ := cutActed_frame (s := evaluatedAt p s) (r := recordRead s)
  rw [hfeed, actedAt, actUpdate_feed (by rw [haux, ha]) (by rw [← hbud, hl]),
    shedToGrant_feed _ _ (by rw [isAux_congr hst, haux, ha]), hset', hset, cutActed_ownGrant, hown]
  rfl

theorem completed_energizedSum (p : Pins) (h : staysAwake s) (ha : s.isAux = true)
    (hl : (completed p s).budget.limp = false) : (completed p s).energizedSum ≤ (completed p s).ownGrant := by
  obtain ⟨hbud, hown, -, -, hfeed, -, hport⟩ := completed_congr p h
  obtain ⟨-, -, haux, -⟩ := evaluatedAt_feeders p s
  have hsum : (completed p s).energizedSum = (actedAt p s).energizedSum := by
    rw [State.energizedSum, State.energizedSum, hfeed, hport]
  rw [hsum, hown]
  exact actUpdate_sum (by rw [haux, ha]) (by rw [← hbud, hl])

theorem noticed_completed_of_shed {m : Notice} (p : Pins) (h : staysAwake s) (ha : s.isAux = true)
    (hl : (completed p s).budget.limp = false)
    (hm : noticed ((cutActed (evaluatedAt p s) (recordRead s)).shedToGrant (rxCount s.line.rx).toNat) m) :
    noticed (completed p s) m := by
  obtain ⟨hbud, -⟩ := completed_congr p h
  obtain ⟨-, -, haux, -⟩ := evaluatedAt_feeders p s
  exact (noticed_completed_iff h m).2 (noticed_actUpdate_of_shed (by rw [haux, ha]) (by rw [← hbud, hl]) hm)

/-- A notice of the window event stands after the completed round. -/
theorem noticed_completed_of_window {m : Notice} (p : Pins) (h : staysAwake s) (ha : s.isAux = true)
    (hl : (completed p s).budget.limp = false)
    (hm : noticed (windowMoved (evaluatedAt p s) (recordRead s)) m) : noticed (completed p s) m :=
  noticed_completed_of_shed p h ha hl (noticed_shedToGrant (noticed_cutActed hm))

theorem completed_feederEvent (p : Pins) (h : staysAwake s) : FeederEventOf s.arb.window
    (completed p s).arb.window (rxMarks s.line.rx).abandons ((evaluatedAt p s).arbAct (recordRead s)).event := by
  obtain ⟨-, -, -, -, harb⟩ := evaluatedAt_feeders p s
  have hevent := arbAct_feederEvent (evaluatedAt p s) (recordRead s)
  rw [completed_arb h rfl]
  rwa [harb] at hevent

theorem shedTable_off {nom : Eight Nat} {f : Eight Feeder} {g n : Nat} {k : Fin 8}
    (h : (f.get k).st.energized = false) : ((shedTable nom f g n).get k).st.energized = false := by
  rw [shedTable, get_ofFn]
  split
  · rfl
  · exact h

end Completed

/-- Settles O26: the window event, the cut and the shedding move the feeders, each move with its notice. -/
theorem feedersAtACompletion : Obligations.FeedersAtACompletion := by
  intro i p s hrow hawake haux m n stops nom
  refine ⟨_, exec_completionRow hrow, completed_feed_of_limp p hawake, fun hl => ?_⟩
  intro taken closed cut moved left
  obtain ⟨-, hpins, -, -, hkept, -⟩ := evaluatedAt_frame p s
  obtain ⟨-, -, hrole, hset, -⟩ := evaluatedAt_feeders p s
  obtain ⟨-, -, -, hwindow⟩ := windowMoved_frame (s := evaluatedAt p s) (r := recordRead s)
  obtain ⟨hst', -, hset'⟩ := cutActed_frame (s := evaluatedAt p s) (r := recordRead s)
  obtain ⟨-, hown, -⟩ := completed_congr p hawake
  have haux' : (evaluatedAt p s).isAux = true := hrole.trans haux
  obtain ⟨htaken, hended, habandoned⟩ := completed_feederEvent p hawake
  have hcut : cutsComfort (evaluatedAt p s) (recordRead s) ↔ cut := by
    rw [cutsComfort, hpins, hset, recordRead_marks]
  have hacted : (ceilingActed (evaluatedAt p s) (recordRead s)).feed = s.feed := by
    obtain ⟨-, -, -, -, -, hfeed, -⟩ := ceilingActed_frame (evaluatedAt p s) (recordRead s)
    rw [hfeed, hkept]
  have hwait : ∀ k, taken k → (s.feed.get k).st = .waiting := fun k hk => by
    rw [← hkept]
    exact waiting_of_taken haux' ((htaken k).2 hk)
  have hmoved : ∀ k, (windowMoved (evaluatedAt p s) (recordRead s)).feed.get k = moved.get k := fun k => by
    rw [hwindow, hkept, get_ofFn]
    by_cases ht : taken k
    · rw [if_pos ht, (htaken k).2 ht, shifted_taken (hwait k ht)]
      rfl
    rw [if_neg ht]
    by_cases hc : closed k
    · obtain ⟨hafter, hbefore, hin⟩ := id hc
      rw [if_pos hc]
      cases hs : stops with
      | true =>
        rw [(habandoned k).2 ⟨⟨hafter, hbefore⟩, hs⟩, shifted_abandoned hin]
        rfl
      | false =>
        rw [(hended k).2 ⟨⟨hafter, hbefore⟩, hs⟩, shifted_ended hin]
        rfl
    · rw [if_neg hc, shifted_none (fun he => ht ((htaken k).1 he))]
      refine fun hin => ⟨fun he => ?_, fun he => ?_⟩
      · obtain ⟨⟨hafter, hbefore⟩, -⟩ := (hended k).1 he
        exact hc ⟨hafter, hbefore, hin⟩
      · obtain ⟨⟨hafter, hbefore⟩, -⟩ := (habandoned k).1 he
        exact hc ⟨hafter, hbefore, hin⟩
  have hleft : (cutActed (evaluatedAt p s) (recordRead s)).feed = left := by
    refine eight_ext _ _ fun k => ?_
    rw [get_ofFn, ← hmoved]
    by_cases hc : cut
    · rw [cutActed_feed_of_cut haux' (hcut.2 hc)]
      simp only [hc, true_and]
      rfl
    · rw [cutActed_of_no_cut (fun hn => hc (hcut.1 hn)), if_neg (fun ⟨hn, _⟩ => hc hn)]
  have hfeed := completed_feed p hawake haux hl
  rw [hleft] at hfeed
  refine ⟨hfeed, completed_energizedSum p hawake haux hl, fun hc k => ?_, fun k hk => ⟨hwait k hk, ?_⟩,
    fun k hk => ?_, fun k hc hk => ?_, fun k hk => ?_⟩
  · rw [hfeed]
    refine shedTable_off ?_
    rw [← hleft, cutActed_feed_of_cut haux' (hcut.2 hc)]
    exact turnedOff_off _ _
  · refine noticed_completed_of_window p hawake haux hl ?_
    rw [windowMoved, (htaken k).2 hk]
    refine noticed_feederWindow_taken ?_
    rw [hacted, hwait k hk]
  · refine noticed_completed_of_window p hawake haux hl ?_
    obtain ⟨hafter, hbefore, hin⟩ := hk
    rw [windowMoved]
    cases hs : stops with
    | true =>
      rw [(habandoned k).2 ⟨⟨hafter, hbefore⟩, hs⟩]
      exact noticed_feederWindow_abandoned (by rw [hacted, hin])
    | false =>
      rw [(hended k).2 ⟨⟨hafter, hbefore⟩, hs⟩]
      exact noticed_feederWindow_ended (by rw [hacted, hin])
  · refine noticed_completed_of_shed p hawake haux hl (noticed_shedToGrant ?_)
    exact noticed_cutActed_of_cut haux' (hcut.2 hc) (by rw [hmoved]; exact hk)
  · refine noticed_completed_of_shed p hawake haux hl (noticed_shedToGrant_self ?_ ?_)
    · rw [isAux_congr hst', haux']
    · rw [hleft, hset', hset, cutActed_ownGrant, ← hown]
      exact hk

end Sys2Proof.Proofs

/-! # The slate at a completed round (R165, R167 to R170, R172, R175) -/

namespace Sys2Proof.Proofs

open Sys2Proof.Machine Sys2Proof.Laws

section Sounder

variable {s : State} {n : Nat}

/-- SOUNDER's part of the slate update: on where it is called for, then off where nothing holds it (R172). -/
def sounded (calls : Bool) (s : State) (n : Nat) : State :=
  (if calls then s.sounderOn n else s).sounderOffCheck n

theorem sounderOffCheck_slate (s : State) (n : Nat) : (s.sounderOffCheck n).slate = { s.slate with
    sounder := s.slate.sounder && (anyRaised s.slate.entries || s.slate.full || s.slate.minLeft.isSome) } := by
  rw [State.sounderOffCheck]
  split
  · rename_i h
    obtain ⟨⟨⟨hon, hquiet⟩, hfull⟩, hmin⟩ : ((s.slate.sounder = true ∧ anyRaised s.slate.entries = false) ∧
        s.slate.full = false) ∧ s.slate.minLeft = none := by simpa using h
    simp [hon, hquiet, hfull, hmin]
  · rename_i h
    have hkeep : (s.slate.sounder && (anyRaised s.slate.entries || s.slate.full || s.slate.minLeft.isSome)) =
        s.slate.sounder := by
      rw [Bool.eq_iff_iff, Bool.and_eq_true, and_iff_left_iff_imp]
      intro hon
      by_contra hnone
      refine h ?_
      simpa [hon, and_assoc] using hnone
    rw [hkeep]

theorem noticed_sounderOffCheck_self (hon : s.slate.sounder = true)
    (hoff : (s.sounderOffCheck n).slate.sounder = false) :
    noticed (s.sounderOffCheck n) ⟨.slate, 8, s.slate.onMs, n⟩ := by
  rw [State.sounderOffCheck] at hoff ⊢
  split
  · exact noticed_notify_self _ _ _ _ _
  · rename_i h
    rw [if_neg h, hon] at hoff
    exact absurd hoff (by simp)

theorem noticed_sounded {calls : Bool} {m : Notice} (h : noticed s m) : noticed (sounded calls s n) m :=
  noticed_sounderOffCheck (noticed_ite (noticed_sounderOn h) h)

/-- SOUNDER's part leaves the rest of the slate. -/
theorem sounded_kept (calls : Bool) (s : State) (n : Nat) :
    (sounded calls s n).slate.entries = s.slate.entries ∧ (sounded calls s n).slate.full = s.slate.full ∧
      (sounded calls s n).slate.ackPending = s.slate.ackPending ∧
      (sounded calls s n).slate.rearm = s.slate.rearm := by
  rw [sounded, sounderOffCheck_slate]
  cases calls with
  | false => exact ⟨rfl, rfl, rfl, rfl⟩
  | true =>
    rw [if_pos rfl, sounderOn_slate]
    split <;> exact ⟨rfl, rfl, rfl, rfl⟩

theorem sounded_silent (h : s.slate.sounder = false) : sounded false s n = s := sounderOffCheck_of_calls (.inl h)

theorem sounded_of_on {calls : Bool} (h : s.slate.sounder = true) : sounded calls s n = s.sounderOffCheck n := by
  cases calls with
  | false => rfl
  | true => exact congrArg (State.sounderOffCheck · n) (sounderOn_of_on h)

theorem startDelay_isSome (ms : Nat) : (startDelay ms).isSome = true ↔ ms ≠ 0 := by
  rw [startDelay]
  split <;> simp [*]

/-- SOUNDER called for while OFF (R172). -/
theorem sounded_called (h : s.slate.sounder = false) :
    (sounded true s n).slate = { s.slate with
      onMs := 0
      minLeft := startDelay s.port.settings.soundMin
      sounder := anyRaised s.slate.entries || s.slate.full || (startDelay s.port.settings.soundMin).isSome } ∧
    noticed (sounded true s n) ⟨.slate, 7, 0, n⟩ ∧
    ((sounded true s n).slate.sounder = false → noticed (sounded true s n) ⟨.slate, 8, 0, n⟩) := by
  have hon : (s.sounderOn n).slate =
      { s.slate with sounder := true, onMs := 0, minLeft := startDelay s.port.settings.soundMin } := by
    rw [sounderOn_slate, if_neg (by simp [h])]
  refine ⟨?_, noticed_sounderOffCheck (noticed_sounderOn_self _ n h), fun hoff => ?_⟩
  · rw [sounded, if_pos rfl, sounderOffCheck_slate, hon, Bool.true_and]
  · have hms : (s.sounderOn n).slate.onMs = 0 := by rw [hon]
    rw [← hms]
    exact noticed_sounderOffCheck_self (by rw [if_pos rfl, hon]) hoff

end Sounder

section Lists

variable {f : SlateEntry → Option SlateEntry × List (Nat × Nat)} {l : List SlateEntry}

/-- A step leaves what its step per entry leaves, in the slate's order. -/
theorem slateStep_entries (f : SlateEntry → Option SlateEntry × List (Nat × Nat)) (l : List SlateEntry) :
    (slateStep f l).1 = l.filterMap (fun e => (f e).1) := by
  induction l with
  | nil => rfl
  | cons e r ih =>
    rw [slateStep, List.filterMap_cons]
    split <;> simp [*]

theorem slateStep_notes (f : SlateEntry → Option SlateEntry × List (Nat × Nat)) (l : List SlateEntry) :
    (slateStep f l).2 = l.flatMap (fun e => (f e).2) := by
  induction l with
  | nil => rfl
  | cons e r ih =>
    rw [slateStep, List.flatMap_cons]
    split <;> simp [*]

theorem mem_slateStep_notes {e : SlateEntry} {x : Nat × Nat} (he : e ∈ l) (hx : x ∈ (f e).2) :
    x ∈ (slateStep f l).2 := by
  rw [slateStep_notes]
  exact List.mem_flatMap.2 ⟨e, he, hx⟩

/-- The acknowledge step of one entry, taken only if the round carried ACK (R168). -/
def ackLeft (ack : Bool) (e : SlateEntry) : Option SlateEntry := if ack then (ackEntry e).1 else some e

theorem slateAck_entries (ack : Bool) (l : List SlateEntry) :
    (slateAck ack l).1 = l.filterMap (ackLeft ack) := by
  cases ack with
  | false => exact List.filterMap_some.symm
  | true => exact slateStep_entries _ _

variable {cond lat : Bool} {d : Nat} {e e' : SlateEntry}

theorem levelEntry_gone (h : (levelEntry cond lat d e).1 = none) :
    (4, e.noticeValue) ∈ (levelEntry cond lat d e).2 := by
  unfold levelEntry at h ⊢
  cases hst : e.st <;> cases cond <;> cases lat <;> simp_all

theorem levelEntry_again (h : (levelEntry cond lat d e).1 = some e') (hl : e.st = .lapsed) (hr : e'.st = .raised) :
    (1, e'.noticeValue) ∈ (levelEntry cond lat d e).2 := by
  cases hc : cond with
  | false =>
    have hsame : e = e' := by simpa [levelEntry, hl, hc] using h
    rw [← hsame, hl] at hr
    exact absurd hr (by simp)
  | true =>
    rw [hc] at h
    simp only [levelEntry, hl, if_true, Option.some.injEq] at h ⊢
    rw [h]
    exact List.mem_singleton.2 rfl

theorem levelEntry_lapsed (h : (levelEntry cond lat d e).1 = some e') (hr : e.st = .raised) (hl : e'.st = .lapsed) :
    (2, e'.noticeValue) ∈ (levelEntry cond lat d e).2 := by
  cases hc : cond with
  | true =>
    have hsame : e = e' := by simpa [levelEntry, hr, hc] using h
    rw [← hsame, hr] at hl
    exact absurd hl (by simp)
  | false =>
    cases hlat : lat with
    | false => simp [levelEntry, hr, hc, hlat] at h
    | true =>
      rw [hc, hlat] at h
      simp only [levelEntry, hr, if_true, Bool.false_eq_true, if_false, Option.some.injEq] at h ⊢
      rw [h]
      exact List.mem_singleton.2 rfl

/-- A level step tells of an entry raised again exactly where a lapsed entry's condition holds (R167). -/
theorem levelEntry_calls :
    (levelEntry cond lat d e).2.any (fun n => n.1 == 1) = true ↔ e.st = .lapsed ∧ cond = true := by
  unfold levelEntry
  cases hst : e.st <;> cases cond <;> cases lat <;> simp

end Lists

section Update

variable {s : State} {r : RoundRecord}

/-- The entries the level and acknowledge steps leave (R167, R168). -/
def slateLeft (s : State) (r : RoundRecord) : List SlateEntry := (slateAck r.marks.ack s.slateLevel.1).1

/-- The entries the creation step makes (R169). -/
def slateMade (s : State) (r : RoundRecord) : List SlateEntry :=
  created s.view.entries (slateLeft s r) r.stamp s.port.settings.soundDelay

/-- The slate's notices of the update (R175). -/
def slateNotes (s : State) (r : RoundRecord) : List (Nat × Nat) :=
  s.slateLevel.2 ++ (slateAck r.marks.ack s.slateLevel.1).2 ++
    (slateMade s r).map (fun e => (0, e.noticeValue)) ++
    fullNotice s.slate.full (leftOut s.view.entries (slateLeft s r))

/-- The slate before SOUNDER's part (R169, R170). -/
def slateMoved (s : State) (r : RoundRecord) : Slate :=
  ({ s.slate with
      entries := slateLeft s r ++ slateMade s r
      full := decide (0 < leftOut s.view.entries (slateLeft s r)) } : Slate).rearmUpdate s.pins.ri0

/-- The update calls for SOUNDER (R172). -/
def slateCalls (s : State) (r : RoundRecord) : Bool :=
  decide (0 < leftOut s.view.entries (slateLeft s r)) ||
    (s.port.settings.soundDelay == 0 &&
      (!(slateMade s r).isEmpty || s.slateLevel.2.any (fun n => n.1 == 1)))

/-- The station before SOUNDER's part of the slate update. -/
def slateNoted (s : State) (r : RoundRecord) : State :=
  (s.setSlate (slateMoved s r)).notifyAll .slate r.stamp (slateNotes s r)

theorem slateUpdate_eq (h : s.isCab = true) :
    s.slateUpdate r = sounded (slateCalls s r) (slateNoted s r) r.stamp := by
  rw [State.slateUpdate, if_pos h]
  rfl

theorem slateNoted_slate : (slateNoted s r).slate = slateMoved s r := by simp [slateNoted]

theorem slateNoted_settings : (slateNoted s r).port.settings = s.port.settings := by simp [slateNoted]

theorem noticed_slateUpdate_of_mem {a v : Nat} (h : s.isCab = true) (hm : (a, v) ∈ slateNotes s r) :
    noticed (s.slateUpdate r) ⟨.slate, a, v, r.stamp⟩ := by
  rw [slateUpdate_eq h]
  exact noticed_sounded (noticed_notifyAll_of_mem rfl hm)

theorem mem_slateNotes_of_level {x : Nat × Nat} (h : x ∈ s.slateLevel.2) : x ∈ slateNotes s r :=
  List.mem_append_left _ (List.mem_append_left _ (List.mem_append_left _ h))

/-- An entry the level step leaves is told of by the acknowledge step of a round with ACK (R168). -/
theorem mem_slateNotes_of_ack {x : Nat × Nat} {e : SlateEntry} (ha : r.marks.ack = true) (he : e ∈ s.slateLevel.1)
    (h : x ∈ (ackEntry e).2) : x ∈ slateNotes s r := by
  refine List.mem_append_left _ (List.mem_append_left _ (List.mem_append_right _ ?_))
  rw [slateAck, if_pos ha]
  exact mem_slateStep_notes he h

theorem mem_slateNotes_of_made {e : SlateEntry} (h : e ∈ slateMade s r) : (0, e.noticeValue) ∈ slateNotes s r :=
  List.mem_append_left _ (List.mem_append_right _ (List.mem_map_of_mem h))

theorem mem_slateNotes_of_full {x : Nat × Nat}
    (h : x ∈ fullNotice s.slate.full (leftOut s.view.entries (slateLeft s r))) : x ∈ slateNotes s r :=
  List.mem_append_right _ h

theorem rearmUpdate_eq (x : Slate) (ackIn : Bool) : x.rearmUpdate ackIn =
    { x with rearm := if x.rearm = .releasing ∧ ackIn = false then .armed else x.rearm } := by
  rw [Slate.rearmUpdate]
  split <;> rfl

theorem slateMoved_parts (s : State) (r : RoundRecord) :
    (slateMoved s r).entries = slateLeft s r ++ slateMade s r ∧
    (slateMoved s r).full = decide (0 < leftOut s.view.entries (slateLeft s r)) ∧
    (slateMoved s r).ackPending = s.slate.ackPending ∧
    (slateMoved s r).rearm = (if s.slate.rearm = .releasing ∧ s.pins.ri0 = false then .armed else s.slate.rearm) ∧
    (slateMoved s r).sounder = s.slate.sounder ∧ (slateMoved s r).minLeft = s.slate.minLeft ∧
    (slateMoved s r).onMs = s.slate.onMs := by
  rw [slateMoved, rearmUpdate_eq]
  exact ⟨rfl, rfl, rfl, rfl, rfl, rfl, rfl⟩

/-- The slate after the update but for SOUNDER (R167 to R170). -/
theorem slateUpdate_kept (h : s.isCab = true) :
    (s.slateUpdate r).slate.entries = slateLeft s r ++ slateMade s r ∧
    (s.slateUpdate r).slate.full = decide (0 < leftOut s.view.entries (slateLeft s r)) ∧
    (s.slateUpdate r).slate.ackPending = s.slate.ackPending ∧
    (s.slateUpdate r).slate.rearm =
      (if s.slate.rearm = .releasing ∧ s.pins.ri0 = false then .armed else s.slate.rearm) := by
  obtain ⟨hentries, hfull, hack, hrearm⟩ := sounded_kept (slateCalls s r) (slateNoted s r) r.stamp
  obtain ⟨hentries', hfull', hack', hrearm', -⟩ := slateMoved_parts s r
  rw [slateNoted_slate] at hentries hfull hack hrearm
  rw [slateUpdate_eq h]
  exact ⟨hentries.trans hentries', hfull.trans hfull', hack.trans hack', hrearm.trans hrearm'⟩

end Update

section Sounding

variable {s : State} {r : RoundRecord}

/-- SOUNDER stays OFF while nothing calls for it (R172). -/
theorem slateUpdate_silent (h : s.isCab = true) (hoff : s.slate.sounder = false) (hc : slateCalls s r = false) :
    (s.slateUpdate r).slate.sounder = false ∧ (s.slateUpdate r).slate.minLeft = s.slate.minLeft ∧
      (s.slateUpdate r).slate.onMs = s.slate.onMs := by
  obtain ⟨-, -, -, -, hon, hmin, hms⟩ := slateMoved_parts s r
  rw [slateUpdate_eq h, hc, sounded_silent (by rw [slateNoted_slate, hon, hoff]), slateNoted_slate]
  exact ⟨hon.trans hoff, hmin, hms⟩

/-- SOUNDER called for while OFF (R172). -/
theorem slateUpdate_called (h : s.isCab = true) (hoff : s.slate.sounder = false) (hc : slateCalls s r = true) :
    (s.slateUpdate r).slate.minLeft = startDelay s.port.settings.soundMin ∧ (s.slateUpdate r).slate.onMs = 0 ∧
    noticed (s.slateUpdate r) ⟨.slate, 7, 0, r.stamp⟩ ∧
    (s.slateUpdate r).slate.sounder = (anyRaised (s.slateUpdate r).slate.entries || (s.slateUpdate r).slate.full ||
      (startDelay s.port.settings.soundMin).isSome) ∧
    ((s.slateUpdate r).slate.sounder = false → noticed (s.slateUpdate r) ⟨.slate, 8, 0, r.stamp⟩) := by
  obtain ⟨-, -, -, -, hon, -⟩ := slateMoved_parts s r
  obtain ⟨hslate, hup, hdown⟩ := sounded_called (s := slateNoted s r) (n := r.stamp)
    (by rw [slateNoted_slate, hon, hoff])
  rw [slateNoted_settings] at hslate
  rw [slateUpdate_eq h, hc]
  refine ⟨by rw [hslate], by rw [hslate], hup, by rw [hslate], hdown⟩

/-- SOUNDER that is ON goes OFF where nothing holds it (R172). -/
theorem slateUpdate_sounding (h : s.isCab = true) (hon : s.slate.sounder = true) :
    (s.slateUpdate r).slate.minLeft = s.slate.minLeft ∧ (s.slateUpdate r).slate.onMs = s.slate.onMs ∧
    (s.slateUpdate r).slate.sounder = (anyRaised (s.slateUpdate r).slate.entries || (s.slateUpdate r).slate.full ||
      s.slate.minLeft.isSome) ∧
    ((s.slateUpdate r).slate.sounder = false →
      noticed (s.slateUpdate r) ⟨.slate, 8, s.slate.onMs, r.stamp⟩) := by
  obtain ⟨-, -, -, -, hon', hmin, hms⟩ := slateMoved_parts s r
  have hnoted : (slateNoted s r).slate.sounder = true := by rw [slateNoted_slate, hon', hon]
  rw [slateUpdate_eq h, sounded_of_on hnoted]
  refine ⟨?_, ?_, ?_, fun hoff => ?_⟩
  · rw [sounderOffCheck_slate, slateNoted_slate, hmin]
  · rw [sounderOffCheck_slate, slateNoted_slate, hms]
  · rw [sounderOffCheck_slate, hnoted, Bool.true_and, slateNoted_slate, hmin]
  · rw [← hms, ← slateNoted_slate]
    exact noticed_sounderOffCheck_self hnoted hoff

end Sounding

section Completed

variable {p : Pins} {s : State}

/-- The station whose slate the completed round updates (R58, R178). -/
def slateBase (p : Pins) (s : State) : State :=
  ((evaluatedAt p s).arbUpdate (recordRead s)).poleUpdate (recordRead s)

theorem slateBase_frame (p : Pins) (s : State) : (slateBase p s).straps = s.straps ∧ (slateBase p s).pins = p ∧
    (slateBase p s).view = s.view.absorb (recordRead s) ∧ (slateBase p s).port.settings = s.port.settings ∧
    (slateBase p s).slate = s.slate := by
  obtain ⟨hst, hpins, -, -, -, hset, -, hview, hslate, -⟩ := evaluatedAt_frame p s
  simp [slateBase, hst, hpins, hset, hview, hslate]

theorem completed_slate (p : Pins) (h : staysAwake s) :
    (completed p s).slate = ((slateBase p s).slateUpdate (recordRead s)).slate := by
  obtain ⟨-, -, -, -, -, hslate, -⟩ := completed_congr p h
  rw [hslate, actedAt, actUpdate_slate]
  rfl

theorem noticed_completed_of_slate {m : Notice} (p : Pins) (h : staysAwake s) (hk : m.kind = .slate)
    (hm : noticed ((slateBase p s).slateUpdate (recordRead s)) m) : noticed (completed p s) m := by
  rw [noticed_completed_iff h, actedAt, actUpdate_eq]
  exact noticed_regenUpdate (noticed_feederUpdate (noticed_ceilingUpdate (by simp [hk]) hm))

end Completed

/-- Settles O28: level, acknowledge and creation steps of the slate, then SOUNDER's own rule. -/
theorem slateAtACompletion : Obligations.SlateAtACompletion := by
  intro i p s hrow hawake hcab m x
  refine ⟨_, exec_completionRow hrow, ?_⟩
  intro holds level acked kept wanted raised
  obtain ⟨hst, hpins, hview, hset, hslate⟩ := slateBase_frame p s
  rw [← completed_view p hawake] at hview
  have hcab' : (slateBase p s).isCab = true := by rw [isCab_congr hst, hcab]
  have htells := fun (n : Notice) => noticed_completed_of_slate (m := n) p hawake
  have hlevel : ∀ e, (levelEntry (holds e.source e.kind) (latched x.latchMask e.kind) x.soundDelay e).1 = level e := by
    intro e
    simp only [level, levelEntry]
    cases e.st <;> cases holds e.source e.kind <;> cases latched x.latchMask e.kind <;> rfl
  have hacked : ackLeft m.ack = acked := by
    funext e
    simp only [acked, ackLeft, ackEntry]
    cases e.st <;> cases m.ack <;> rfl
  have hstep : (slateBase p s).slateLevel = slateStep (fun e => levelEntry (holds e.source e.kind)
      (latched x.latchMask e.kind) x.soundDelay e) s.slate.entries := by
    rw [State.slateLevel, hview, hset, hslate]
  have hkept : slateLeft (slateBase p s) (recordRead s) = kept := by
    rw [slateLeft, slateAck_entries, hstep, slateStep_entries, List.filterMap_filterMap, recordRead_marks, hacked]
    simp only [hlevel]
    rfl
  have hleft : leftOut (slateBase p s).view.entries kept = wanted.length - (12 - kept.length) := by
    rw [hview]
    rfl
  have hmade : slateMade (slateBase p s) (recordRead s) = (wanted.take (12 - kept.length)).map
      (fun c => newEntry c (rxCount s.line.rx).toNat x.soundDelay) := by
    rw [slateMade, hkept, hview, hset]
    rfl
  have hfull : decide (0 < leftOut (slateBase p s).view.entries kept) = decide (12 - kept.length < wanted.length) := by
    rw [hleft, decide_eq_decide]
    omega
  have hnote : ∀ a v, (a, v) ∈ slateNotes (slateBase p s) (recordRead s) →
      noticed (completed p s) ⟨.slate, a, v, (rxCount s.line.rx).toNat⟩ :=
    fun a v hm => htells _ rfl (noticed_slateUpdate_of_mem hcab' hm)
  have hparts := slateUpdate_kept (r := recordRead s) hcab'
  rw [← completed_slate p hawake, hkept, hmade, hfull, hslate, hpins] at hparts
  obtain ⟨hentries, hfull', hack, hrearm⟩ := hparts
  have htold : ∀ e ∈ s.slate.entries, ∀ a v, (a, v) ∈ (levelEntry (holds e.source e.kind)
      (latched x.latchMask e.kind) x.soundDelay e).2 →
      noticed (completed p s) ⟨.slate, a, v, (rxCount s.line.rx).toNat⟩ := fun e he a v hm => by
    refine hnote _ _ (mem_slateNotes_of_level ?_)
    rw [hstep]
    exact mem_slateStep_notes he hm
  have hleaves : ∀ e ∈ s.slate.entries, ∀ e', level e = some e' → e' ∈ (slateBase p s).slateLevel.1 :=
    fun e he e' he' => by
      rw [hstep, slateStep_entries, List.mem_filterMap]
      exact ⟨e, he, (hlevel e).trans he'⟩
  have hcalls : slateCalls (slateBase p s) (recordRead s) = true ↔ (completed p s).slate.full = true ∨
      (x.soundDelay = 0 ∧ (wanted.take (12 - kept.length) ≠ [] ∨
        ∃ e ∈ s.slate.entries, e.st = .lapsed ∧ holds e.source e.kind = true)) := by
    have hagain : (slateBase p s).slateLevel.2.any (fun n => n.1 == 1) = true ↔
        ∃ e ∈ s.slate.entries, e.st = .lapsed ∧ holds e.source e.kind = true := by
      rw [hstep, slateStep_notes, List.any_flatMap, List.any_eq_true]
      simp only [levelEntry_calls]
    have hnew : (slateMade (slateBase p s) (recordRead s)).isEmpty = false ↔ wanted.take (12 - kept.length) ≠ [] := by
      rw [hmade, List.isEmpty_eq_false_iff, ne_eq, List.map_eq_nil_iff]
    rw [slateCalls, hkept, hfull, ← hfull', hset]
    simp only [Bool.or_eq_true, Bool.and_eq_true, Bool.not_eq_true', beq_iff_eq, hagain, hnew]
    rfl
  refine ⟨hentries, hfull', hack, hrearm, ⟨fun e he => ⟨fun hgone => ?_, fun e' he' => ⟨fun hl hr => ?_,
    fun hr hl => ?_, fun ha hr => ?_, fun ha hl => ?_⟩⟩, fun c hc => ?_, fun hno hyes => ?_, fun hyes hno => ?_⟩, ?_⟩
  · exact htold e he _ _ (levelEntry_gone ((hlevel e).trans hgone))
  · exact htold e he _ _ (levelEntry_again ((hlevel e).trans he') hl hr)
  · exact htold e he _ _ (levelEntry_lapsed ((hlevel e).trans he') hr hl)
  · refine hnote _ _ (mem_slateNotes_of_ack ha (hleaves e he e' he') ?_)
    rw [ackEntry, hr]
    exact List.mem_singleton.2 rfl
  · refine hnote _ _ (mem_slateNotes_of_ack ha (hleaves e he e' he') ?_)
    rw [ackEntry, hl]
    exact List.mem_singleton.2 rfl
  · refine hnote _ _ (mem_slateNotes_of_made (e := newEntry c (rxCount s.line.rx).toNat x.soundDelay) ?_)
    rw [hmade]
    exact List.mem_map_of_mem hc
  · refine hnote _ _ (mem_slateNotes_of_full ?_)
    rw [hkept, hslate, hno, hleft, fullNotice, if_pos (by simpa using hfull'.symm.trans hyes)]
    exact List.mem_singleton.2 rfl
  · refine hnote _ _ (mem_slateNotes_of_full ?_)
    rw [hkept, hslate, hyes, hleft, fullNotice, if_neg (by simpa using hfull'.symm.trans hno)]
    exact List.mem_singleton.2 rfl
  · intro n calls
    refine ⟨fun hoff hno => ?_, fun hoff hyes => ?_, fun hon => ?_⟩
    · have hsilent := slateUpdate_silent (r := recordRead s) hcab' (by rw [hslate, hoff])
        (Bool.not_eq_true _ ▸ fun hc => hno (hcalls.1 hc))
      rwa [← completed_slate p hawake, hslate] at hsilent
    · have hcalled := slateUpdate_called (r := recordRead s) hcab' (by rw [hslate, hoff]) (hcalls.2 hyes)
      rw [← completed_slate p hawake, hset] at hcalled
      obtain ⟨hmin, hms, hup, hsound, hdown⟩ := hcalled
      refine ⟨hmin, hms, htells _ rfl hup, ?_, fun hoff' => htells _ rfl (hdown hoff')⟩
      rw [hsound, Bool.or_eq_true, Bool.or_eq_true, startDelay_isSome, or_assoc]
      rfl
    · have hsounding := slateUpdate_sounding (r := recordRead s) hcab' (by rw [hslate, hon])
      rw [← completed_slate p hawake, hslate] at hsounding
      obtain ⟨hmin, hms, hsound, hdown⟩ := hsounding
      refine ⟨hmin, hms, ?_, fun hoff => htells _ rfl (hdown hoff)⟩
      rw [hsound, Bool.or_eq_true, Bool.or_eq_true, Option.isSome_iff_ne_none, or_assoc]
      rfl

end Sys2Proof.Proofs

/-! # Entry to ASLEEP (R61, R77, R104, R113, R125, R139, R149, R151, R163, R164, R176, R179, R180) -/

namespace Sys2Proof.Proofs

open Sys2Proof.Machine Sys2Proof.Laws

section Slate

variable {s : State} {m : Notice}

/-- The slate at entry to ASLEEP (R176). -/
def slateAsleep (x : Slate) : Slate :=
  { x with
    entries := setDelays none x.entries, sounder := false, minLeft := none, ackPending := false, rearm := .armed }

theorem slateSleep_slate (s : State) : s.slateSleep.slate = if s.isCab then slateAsleep s.slate else s.slate := by
  unfold State.slateSleep
  split
  · split <;> simp [slateAsleep]
  · rfl

theorem noticed_slateSleep (h : noticed s m) : noticed s.slateSleep m :=
  noticed_ite (noticed_ite (noticed_notify (.inl rfl) h) h) h

/-- SOUNDER that goes OFF at the entry has its notice (R175, R176). -/
theorem noticed_slateSleep_self (hc : s.isCab = true) (hon : s.slate.sounder = true) :
    noticed s.slateSleep ⟨.slate, 8, s.slate.onMs, s.countStamp⟩ := by
  rw [State.slateSleep, if_pos hc]
  dsimp only
  rw [if_pos hon]
  exact noticed_notify_self _ _ _ _ _

end Slate

section Entry

variable (s : State) {m : Notice}

theorem isPole_congr {s t : State} (h : t.straps = s.straps) : t.isPole = s.isPole := by
  obtain ⟨_, hp, _⟩ := roles_congr s t h
  exact hp

/-- The station at the entry before its slate (R179). -/
def sleepBase : State := ((sleepArmed s).setScan (sleepArmed s).scan.sleep).sleepPole

theorem sleepBase_frame : (sleepBase s).straps = s.straps ∧ (sleepBase s).slate = s.slate ∧
    (sleepBase s).countStamp = s.line.roundCount.toNat := by
  obtain ⟨hst, -, -, hslate, -, -, -, -, -, hstamp, -⟩ := sleepArmed_frame s
  refine ⟨?_, ?_, ?_⟩
  · simp [sleepBase, hst]
  · simp [sleepBase, hslate]
  · rw [← hstamp]
    simp [sleepBase, State.countStamp]

/-- Pole watch frozen at the entry (R80, R95, R104). -/
theorem fallAsleep_pole : s.fallAsleep.pole =
    if s.isPole then { s.pole.clearHeard.clearAckable with paused := true } else s.pole.clearHeard := by
  obtain ⟨hst, -, hpole, -⟩ := sleepArmed_frame s
  have hrole : ((sleepArmed s).setScan (sleepArmed s).scan.sleep).isPole = s.isPole := isPole_congr (by simp [hst])
  have hslate : s.fallAsleep.pole = (sleepBase s).pole := by
    rw [fallAsleep_eq, sleepBase]
    simp
  rw [hslate, sleepBase, State.sleepPole, hrole]
  split
  · rw [State.setPole_pole, State.setScan_pole, hpole]
  · rw [State.setScan_pole, hpole]

theorem fallAsleep_slate : s.fallAsleep.slate = if s.isCab then slateAsleep s.slate else s.slate := by
  obtain ⟨hst, hslate, -⟩ := sleepBase_frame s
  have heq : s.fallAsleep = (sleepBase s).slateSleep := rfl
  rw [heq, slateSleep_slate, isCab_congr hst, hslate]

/-- The wake detector armed at the entry (R180). -/
theorem fallAsleep_wakeDet : s.fallAsleep.wakeDet = ⟨true, s.isPole && stowedAtEntry s.pole.pos s.scan.angPos.zone,
    s.isPole && stowedAtEntry s.pole.neg s.scan.angNeg.zone⟩ := by
  obtain ⟨hst, -, -, hscan, hpole, -⟩ := drawCleared_frame s
  have hrole : (((drawCleared s).clearView.setLine (drawCleared s).clearView.line.sleep).setLineUp false).isPole =
      s.isPole := isPole_congr (by simp [State.setLineUp, hst])
  have hkept : (((drawCleared s).clearView.setLine (drawCleared s).clearView.line.sleep).setLineUp false).pole =
      s.pole.clearHeard := by simp [State.setLineUp, State.clearView, hpole]
  have hscan' : (((drawCleared s).clearView.setLine (drawCleared s).clearView.line.sleep).setLineUp false).scan =
      s.scan := by simp [State.setLineUp, hscan]
  have hdet : s.fallAsleep.wakeDet = (sleepArmed s).wakeDet := by
    rw [fallAsleep_eq]
    simp
  rw [hdet, sleepArmed, State.armWake, hrole, hkept, hscan']
  rfl

theorem portKept_fallAsleep : portKept s s.fallAsleep false := by
  rw [portKept_iff]
  simp [fallAsleep_lineUp]

/-- The entry: each block as its chapter gives (R179). -/
theorem fellAsleep_fallAsleep : fellAsleep s
    (s.setLine { s.line with layoverCount := 2 }).fallAsleep s.pins := by
  generalize hv : s.setLine { s.line with layoverCount := 2 } = v
  refine ⟨?_, ?_, fallAsleep_view v, fallAsleep_arb v, ?_, ?_, fun ha k => ?_, fun ha => ?_, ?_, ?_, ?_, ?_, ?_, ?_, ?_⟩
  · rw [fallAsleep_line, ← hv]
    rfl
  · have hport := portKept_fallAsleep v
    rw [← hv] at hport ⊢
    exact hport
  · rw [fallAsleep_budget, ← hv]
    rfl
  · rw [fallAsleep_ceil, ← hv]
    rfl
  · have hfeed := drawCleared_feed v (by rw [← hv]; exact ha) k
    rw [← hv] at hfeed ⊢
    rw [fallAsleep_feed, hfeed]
    rfl
  · have hfeed := drawCleared_feed_of_not v (by rw [← hv]; exact ha)
    rw [← hv] at hfeed ⊢
    rw [fallAsleep_feed, hfeed]
    rfl
  · rw [fallAsleep_scan, ← hv]
    rfl
  · rw [fallAsleep_pole, ← hv]
    rfl
  · rw [fallAsleep_slate, ← hv]
    rfl
  · rw [fallAsleep_wakeDet, ← hv]
    rfl
  · rw [← hv]
    simp
  · rw [← hv]
    simp
  · rw [← hv]
    simp

end Entry

section Told

variable {s : State} {m : Notice}

theorem noticed_clearCeil : noticed s.clearCeil m ↔ noticed s m := by
  unfold State.clearCeil
  split <;> exact Iff.rfl

theorem noticed_sleepBudget (hg : m.kind ≠ .grant) (h : noticed s m) : noticed s.sleepBudget m :=
  noticed_ite (noticed_notify (.inr hg) h) h

theorem noticed_sleepCeil (hc : m.kind ≠ .ceiling) (h : noticed s m) : noticed s.sleepCeil m :=
  noticed_ite (noticed_notify (.inr hc) (noticed_clearCeil.2 h)) (noticed_clearCeil.2 h)

theorem noticed_sleepBudget_self (h : 0 < s.ownGrant) : noticed s.sleepBudget ⟨.grant, 2, 0, s.countStamp⟩ := by
  rw [State.sleepBudget, if_pos h]
  exact noticed_notify_self _ _ _ _ _

theorem noticed_sleepCeil_self (h : s.hasCeiling = true) (hc : 0 < s.ceil.ceiling) :
    noticed s.sleepCeil ⟨.ceiling, 0, 0, s.countStamp⟩ := by
  rw [State.sleepCeil, if_pos (by simp [h, hc])]
  exact noticed_notify_self _ _ _ _ _

theorem noticed_armWake : noticed s.armWake m ↔ noticed s m := Iff.rfl

theorem noticed_sleepPole (h : noticed s m) : noticed s.sleepPole m := noticed_ite h h

theorem noticed_fallAsleep_of_drawCleared (h : noticed (drawCleared s) m) : noticed s.fallAsleep m := by
  have harmed : noticed (sleepArmed s) m := by
    rw [sleepArmed, noticed_armWake, noticed_setLineUp, noticed_setLine, noticed_clearView]
    exact h
  rw [fallAsleep_eq]
  generalize sleepArmed s = u at harmed ⊢
  exact noticed_slateSleep (noticed_sleepPole harmed)

theorem noticed_fallAsleep_of_dropWindow (hg : m.kind ≠ .grant) (hc : m.kind ≠ .ceiling)
    (h : noticed s.dropWindow m) : noticed s.fallAsleep m :=
  noticed_fallAsleep_of_drawCleared (noticed_feederClear (noticed_sleepCeil hc (noticed_sleepBudget hg h)))

/-- The notices of the entry (R113, R139, R151, R164, R175). -/
theorem sleepNoticed_fallAsleep (s : State) : sleepNoticed s s.fallAsleep := by
  have hown : s.dropWindow.ownGrant = s.ownGrant := ownGrant_congr _ _ (by simp) (by simp)
  refine ⟨?_, fun hg => ?_, fun hc hpos => ?_, fun ha k hk => ?_, fun hc hon => ?_⟩
  · exact windowDropped_of_kept (windowDropped_dropWindow s) (by rw [fallAsleep_arb, dropWindow_arb])
      fun m hg hc => noticed_fallAsleep_of_dropWindow hg hc
  · have hself := noticed_sleepBudget_self (s := s.dropWindow) (by rw [hown]; exact hg)
    rw [show s.dropWindow.countStamp = s.line.roundCount.toNat by simp [State.countStamp]] at hself
    exact noticed_fallAsleep_of_drawCleared (noticed_feederClear (noticed_sleepCeil (by simp) hself))
  · have hself := noticed_sleepCeil_self (s := s.dropWindow.sleepBudget)
      (by rw [hasCeiling_congr (s := s) (by simp), hc]) (by simpa using hpos)
    rw [show s.dropWindow.sleepBudget.countStamp = s.line.roundCount.toNat by simp [State.countStamp]] at hself
    exact noticed_fallAsleep_of_drawCleared (noticed_feederClear hself)
  · have hself := noticed_feederClear_self (s := s.dropWindow.sleepBudget.sleepCeil) (k := k)
      (by rw [isAux_congr (s := s) (by simp), ha]) (by simpa [dropWindow_feed] using hk)
    rw [show s.dropWindow.sleepBudget.sleepCeil.countStamp = s.line.roundCount.toNat by
      simp [State.countStamp]] at hself
    exact noticed_fallAsleep_of_drawCleared hself
  · obtain ⟨hst, hslate, hstamp⟩ := sleepBase_frame s
    have hself := noticed_slateSleep_self (s := sleepBase s) (by rw [isCab_congr hst, hc]) (by rw [hslate, hon])
    rw [hslate, hstamp] at hself
    exact hself

theorem sleepNoticed_mono {u t v : State} (h : sleepNoticed u t) (harb : v.arb = t.arb)
    (hn : ∀ n, noticed t n → noticed v n) : sleepNoticed u v := by
  obtain ⟨hwin, hg, hc, hf, hs⟩ := h
  exact ⟨windowDropped_of_kept hwin harb fun n _ _ => hn n, fun h0 => hn _ (hg h0), fun h0 h1 => hn _ (hc h0 h1),
    fun h0 k h1 => hn _ (hf h0 k h1), fun h0 h1 => hn _ (hs h0 h1)⟩

end Told

section Enter

variable {s : State}

theorem enterAsleep_stays (h : s.wakeLevel = false) : s.enterAsleep = s.fallAsleep := if_neg (by simp [h])

theorem enterAsleep_wakes (h : s.wakeLevel = true) : s.enterAsleep = s.fallAsleep.wake true := if_pos h

/-- The notices of the entry stand whether the station stays asleep or wakes at once (R179). -/
theorem sleepNoticed_enterAsleep (s : State) : sleepNoticed s s.enterAsleep := by
  cases h : s.wakeLevel with
  | false =>
    rw [enterAsleep_stays h]
    exact sleepNoticed_fallAsleep s
  | true =>
    rw [enterAsleep_wakes h]
    exact sleepNoticed_mono (sleepNoticed_fallAsleep s) (by simp [State.wake]) fun n => noticed_wake s.fallAsleep true

/-- A level wakes the station at once (R179). -/
theorem wakeLevel_iff : s.wakeLevel = false ↔ s.pins.wakeIn = false ∧ (s.isCab = true → s.pins.ri2 = true) := by
  simp only [State.wakeLevel, Bool.or_eq_false_iff, Bool.and_eq_false_iff, Bool.not_eq_false']
  cases s.isCab <;> simp [and_comm]

end Enter

end Sys2Proof.Proofs

/-! # The second layover round (R178, R179) -/

namespace Sys2Proof.Proofs

open Sys2Proof.Machine Sys2Proof.Laws

section Uncounted

variable {p : Pins} {s : State}

/-- The station with its layover count at n. -/
def countedAs (n : Nat) (s : State) : State := s.setLine { s.line with layoverCount := n }

theorem notifyAll_countedAs (n : Nat) (s : State) (k : NoticeKind) (st : Nat) (x : List (Nat × Nat)) :
    (countedAs n s).notifyAll k st x = countedAs n (s.notifyAll k st x) := by
  have hline : (s.notifyAll k st x).line = s.line := by simp
  rw [countedAs, notifyAll_setLine, countedAs, hline]

/-- The completion's line engine, LINE_UP and LINE notices (R13, R41). -/
def lineDone (m : Mode) (s : State) : State :=
  ((s.setLine (s.line.complete m s.port.settings.quietMs)).setLineUp (s.port.lineUp || s.roleAssigned)).notifyAll
    .line (rxCount s.line.rx + 1).toNat s.line.doneNote

theorem lineComplete_eq (m : Mode) (s : State) : s.lineComplete m =
    if s.line.leavesLimp then (lineDone m s).setBudget { (lineDone m s).budget with limp := false }
    else lineDone m s := rfl

theorem lineDone_countedAs (n : Nat) (m : Mode) (s : State) :
    lineDone m (countedAs n s) = countedAs n (lineDone m s) :=
  notifyAll_countedAs n ((s.setLine (s.line.complete m s.port.settings.quietMs)).setLineUp
    (s.port.lineUp || s.roleAssigned)) _ _ _

theorem lineComplete_countedAs (n : Nat) (s : State) (m : Mode) :
    (countedAs n s).lineComplete m = countedAs n (s.lineComplete m) := by
  have hleaves : (countedAs n s).line.leavesLimp = s.line.leavesLimp := rfl
  rw [lineComplete_eq, lineComplete_eq, lineDone_countedAs, hleaves]
  split <;> rfl

theorem evalUpdate_countedAs (n : Nat) (s : State) (r : RoundRecord) :
    (countedAs n s).evalUpdate r = countedAs n (s.evalUpdate r) := by
  refine (evalUpdate_setLine _ _ _).trans ?_
  rw [countedAs, evalUpdate_line]

theorem actUpdate_countedAs (n : Nat) (s : State) (r : RoundRecord) :
    (countedAs n s).actUpdate r = countedAs n (s.actUpdate r) := by
  refine (actUpdate_setLine _ _ _).trans ?_
  have hline : (s.actUpdate r).line = s.line := by simp
  rw [countedAs, hline]

theorem actedAt_countedAs (n : Nat) (p : Pins) (s : State) :
    actedAt p (countedAs n s) = countedAs n (actedAt p s) := by
  have hsense : ((countedAs n s).sense p).riseB = countedAs n (s.sense p).riseB := rfl
  rw [actedAt, evaluatedAt, hsense, lineComplete_countedAs, evalUpdate_countedAs, actUpdate_countedAs]
  rfl

theorem layoverStep_second {r : RoundRecord} (h : layoverNext s.line.layoverCount r.marks = 2) :
    s.layoverStep r = (countedAs 2 s).enterAsleep := by
  rw [State.layoverStep]
  dsimp only
  rw [h, if_pos rfl]
  rfl

/-- The second layover round: what the same completion leaves where the count stood at 0, then the entry (R178). -/
theorem completed_second (p : Pins) (hl : (rxMarks s.line.rx).layover = true) (hh : (rxMarks s.line.rx).hold = false)
    (hn : 1 ≤ s.line.layoverCount) :
    completed p s = (countedAs 2 (completed p (countedAs 0 s))).enterAsleep := by
  have hawake : staysAwake (countedAs 0 s) := .inr rfl
  have hnext : layoverNext (actedAt p s).line.layoverCount (recordRead s).marks = 2 := by
    have hcount : (actedAt p s).line.layoverCount = s.line.layoverCount := by rw [actedAt_line]; rfl
    rw [layoverNext, hcount, recordRead_marks, hl, hh]
    exact Nat.min_eq_left (by omega)
  rw [completed_layover, layoverStep_second hnext, completed_awake p hawake, actedAt_countedAs]
  generalize actedAt p s = a
  rfl

end Uncounted

end Sys2Proof.Proofs

/-! # What a completed round keeps through the entry to ASLEEP (R84 to R102, R154, R158, R163, R164) -/

namespace Sys2Proof.Proofs

open Sys2Proof.Machine Sys2Proof.Laws

section Rest

/-- The state a feeder rests in once it is de-energized (R154, R164). -/
def atRest (x : FeederState) : FeederState := if x.energized then .waiting else x

theorem atRest_of_on {x : FeederState} (h : x.energized = true) : atRest x = .waiting := if_pos h

/-- The two records are one once both are de-energized, but for their stamps. -/
def SameAtRest (x y : Feeder) : Prop := y.enable = x.enable ∧ atRest y.st = atRest x.st

theorem SameAtRest.trans {x y z : Feeder} (h : SameAtRest x y) (h' : SameAtRest y z) : SameAtRest x z := by
  obtain ⟨he, hr⟩ := h
  obtain ⟨he', hr'⟩ := h'
  exact ⟨he'.trans he, hr'.trans hr⟩

theorem sameAtRest_turnedOff (n : Nat) (x : Feeder) : SameAtRest x (turnedOff n x) := by
  unfold turnedOff
  split
  · rename_i h
    exact ⟨rfl, (atRest_of_on h).symm⟩
  · exact ⟨rfl, rfl⟩

/-- A window event moves a feeder between WAITING and the energized states only (R158). -/
theorem sameAtRest_shifted (e : WindowEvent) (n : Nat) (k : Fin 8) (x : Feeder) : SameAtRest x (shifted e n k x) := by
  unfold shifted
  split
  · rename_i h
    obtain ⟨-, h⟩ := h
    exact ⟨rfl, by rw [h]; rfl⟩
  · split
    · rename_i h
      obtain ⟨-, h⟩ := h
      exact ⟨rfl, by rw [h]; rfl⟩
    · split
      · rename_i h
        obtain ⟨-, h⟩ := h
        exact ⟨rfl, by rw [h]; rfl⟩
      · exact ⟨rfl, rfl⟩

theorem sameAtRest_shedTable (nom : Eight Nat) (f : Eight Feeder) (g n : Nat) (k : Fin 8) :
    SameAtRest (f.get k) ((shedTable nom f g n).get k) := by
  rw [shedTable, get_ofFn]
  split
  · rename_i h
    obtain ⟨hon, -⟩ : (f.get k).st.energized = true ∧ g < drawnWith nom f k := by simpa [isShed] using h
    exact ⟨rfl, (atRest_of_on hon).symm⟩
  · exact ⟨rfl, rfl⟩

theorem sameAtRest_cutActed {s : State} {r : RoundRecord} (ha : s.isAux = true) (k : Fin 8) :
    SameAtRest (s.feed.get k) ((cutActed s r).feed.get k) := by
  obtain ⟨-, -, -, hfeed⟩ := windowMoved_frame (s := s) (r := r)
  have hmoved : SameAtRest (s.feed.get k) ((windowMoved s r).feed.get k) := by
    rw [hfeed]
    exact sameAtRest_shifted _ _ _ _
  by_cases hc : cutsComfort s r
  · rw [cutActed_feed_of_cut ha hc]
    exact hmoved.trans (sameAtRest_turnedOff _ _)
  · rw [cutActed_of_no_cut hc]
    exact hmoved

variable {p : Pins} {s : State}

/-- A completed round moves a feeder of an AUX between WAITING and the energized states only (R157 to R160). -/
theorem sameAtRest_completed (p : Pins) (h : staysAwake s) (ha : s.isAux = true) (k : Fin 8) :
    SameAtRest (s.feed.get k) ((completed p s).feed.get k) := by
  cases hl : (completed p s).budget.limp with
  | true =>
    rw [completed_feed_of_limp p h hl]
    exact ⟨rfl, rfl⟩
  | false =>
    obtain ⟨-, -, haux, -⟩ := evaluatedAt_feeders p s
    obtain ⟨-, -, -, -, hkept, -⟩ := evaluatedAt_frame p s
    have hcut := sameAtRest_cutActed (r := recordRead s) (haux.trans ha) k
    rw [hkept] at hcut
    rw [completed_feed p h ha hl]
    exact hcut.trans (sameAtRest_shedTable _ _ _ _ _)

/-- What is left of a feeder that is de-energized after moves between WAITING and the energized states. -/
theorem turnedOff_of_sameAtRest {x y : Feeder} (h : SameAtRest x y) (n : Nat) :
    (turnedOff n y).st.energized = false ∧ (x.st.energized = false → (turnedOff n y).st = x.st) ∧
      (turnedOff n y).enable = x.enable := by
  obtain ⟨he, hr⟩ := h
  have hst : (turnedOff n y).st = atRest y.st := by
    rw [turnedOff, atRest]
    split <;> rfl
  obtain ⟨hen, -⟩ := sameAtRest_turnedOff n y
  refine ⟨turnedOff_off n y, fun hoff => ?_, hen.trans he⟩
  rw [hst, hr, atRest, if_neg (by simp [hoff])]

end Rest

section Kept

variable {p : Pins} {s : State}

theorem completed_budget_kept (p : Pins) (h : staysAwake s) : (completed p s).budget.trip = s.budget.trip ∧
    (completed p s).budget.lastI = s.budget.lastI := by
  obtain ⟨hbud, -⟩ := completed_congr p h
  obtain ⟨-, htrip, hlast⟩ := evaluatedAt_budget_kept p s
  rw [hbud]
  exact ⟨htrip, hlast⟩

theorem completed_ceil_of_not (p : Pins) (h : staysAwake s) (hc : s.hasCeiling = false) :
    (completed p s).ceil = s.ceil := by
  obtain ⟨-, -, -, hceil, -⟩ := completed_congr p h
  obtain ⟨hst, -, hkept, -⟩ := evaluatedAt_frame p s
  rw [hceil, actedAt, actUpdate_ceil_of_not (by rw [hasCeiling_congr hst, hc]), hkept]

theorem completed_feed_of_not_aux (p : Pins) (h : staysAwake s) (ha : s.isAux = false) :
    (completed p s).feed = s.feed := by
  obtain ⟨-, -, -, -, hfeed, -⟩ := completed_congr p h
  obtain ⟨hst, -, -, -, hkept, -⟩ := evaluatedAt_frame p s
  rw [hfeed, actedAt, actUpdate_feed_of_not_aux (by rw [isAux_congr hst, ha]), hkept]

theorem completed_slate_of_not_cab (p : Pins) (h : staysAwake s) (hc : s.isCab = false) :
    (completed p s).slate = s.slate := by
  obtain ⟨-, -, -, -, -, hslate, -⟩ := completed_congr p h
  rw [hslate, actedAt_slate_of_not_cab p hc]

/-- Without feeders, no window gets one (R144). -/
theorem completed_window_feeder (p : Pins) (h : staysAwake s) (ha : s.isAux = false)
    (hw : ∀ w, s.arb.window = some w → w.feeder = none) {w : Window} (hc : (completed p s).arb.window = some w) :
    w.feeder = none := by
  obtain ⟨-, -, haux, -, harb⟩ := evaluatedAt_feeders p s
  rw [completed_arb h rfl] at hc
  dsimp only at hc
  cases hs : s.arb.window with
  | some x =>
    have hmove := arbAct_move (evaluatedAt p s) (recordRead s)
    rw [harb, hs, hc] at hmove
    generalize ((evaluatedAt p s).arbAct (recordRead s)).event = e at hmove
    cases hmove with
    | held _ _ hsame => rw [hsame, hw x hs]
  | none =>
    have hnone : (evaluatedAt p s).arb.window = none := by rw [harb, hs]
    cases hm : (evaluatedAt p s).mayTake (recordRead s) with
    | false =>
      rw [arbAct_lost hnone hm] at hc
      exact absurd hc (by simp [noAct])
    | true =>
      rw [arbAct_won hnone hm, winAct_of_not_aux (haux.trans ha)] at hc
      have hwin : (⟨_, _, none⟩ : Window) = w := Option.some.inj hc
      rw [← hwin]

theorem feedBack_of_no_feeder (h : ∀ w, s.arb.window = some w → w.feeder = none) : feedBack s = s.feed := by
  unfold feedBack
  split
  · rename_i w hw
    rw [h w hw]
  · rfl

/-- What the entry to ASLEEP reads of a pole record, and what it leaves (R92, R104, R180). -/
def SamePole (x y : PoleRec) : Prop :=
  y.droppedOpen = x.droppedOpen ∧ ∀ z, stowedAtEntry y z = stowedAtEntry x z

theorem samePole_gapEnded (n : Nat) (x : PoleRec) : SamePole x (gapEnded n x) := by
  unfold gapEnded
  split
  · rename_i h
    refine ⟨rfl, fun z => ?_⟩
    cases hst : x.st <;> simp_all [stowedAtEntry, PoleState.isGap]
  · exact ⟨rfl, fun _ => rfl⟩

theorem samePole_ackTaken (x : PoleRec) : SamePole x (ackTaken x) := by
  unfold ackTaken
  split <;> exact ⟨rfl, fun _ => rfl⟩

theorem SamePole.trans {x y z : PoleRec} (h : SamePole x y) (h' : SamePole y z) : SamePole x z := by
  obtain ⟨hd, hs⟩ := h
  obtain ⟨hd', hs'⟩ := h'
  exact ⟨hd'.trans hd, fun z => (hs' z).trans (hs z)⟩

theorem SamePole.ite {x y : PoleRec} (c : Bool) (h : SamePole x y) : SamePole x (if c then y else x) := by
  cases c with
  | true => exact h
  | false => exact ⟨rfl, fun _ => rfl⟩

/-- Pole watch keeps ARC_CUT, its timer and both dropped-open flags, and moves no pole in or out of being stowed
(R88, R92, R96). -/
theorem completed_pole_kept (p : Pins) (h : staysAwake s) : (completed p s).pole.arcCut = s.pole.arcCut ∧
    (completed p s).pole.arcMin = s.pole.arcMin ∧ SamePole s.pole.pos (completed p s).pole.pos ∧
    SamePole s.pole.neg (completed p s).pole.neg := by
  obtain ⟨hpole, -, hrole, -⟩ := beforePoles_frame p s
  have hself : ∀ x, SamePole x x := fun _ => ⟨rfl, fun _ => rfl⟩
  rw [completed_pole p h]
  cases hp : s.isPole with
  | false =>
    rw [poleUpdate_of_not_pole (hrole.trans hp), hpole]
    exact ⟨rfl, rfl, hself _, hself _⟩
  | true =>
    rw [poleUpdate_pole (hrole.trans hp), poleLowered_pole, hpole]
    exact ⟨rfl, rfl, ((samePole_gapEnded _ _).ite _).trans ((samePole_ackTaken _).ite _),
      ((samePole_gapEnded _ _).ite _).trans ((samePole_ackTaken _).ite _)⟩

theorem completed_pole_of_not (p : Pins) (h : staysAwake s) (hp : s.isPole = false) :
    (completed p s).pole = s.pole := by
  obtain ⟨hpole, -, hrole, -⟩ := beforePoles_frame p s
  rw [completed_pole p h, poleUpdate_of_not_pole (hrole.trans hp), hpole]

end Kept

end Sys2Proof.Proofs

/-! # The second layover round enters ASLEEP (R178, R179, R181) -/

namespace Sys2Proof.Proofs

open Sys2Proof.Machine Sys2Proof.Laws

section Second

variable {p : Pins} {s : State}

/-- The state after the second layover round's view update, before the entry: the count read as 0 (R178). -/
def layoverBase (p : Pins) (s : State) : State := completed p (countedAs 0 s)

theorem layoverBase_frame (p : Pins) (s : State) : (layoverBase p s).straps = s.straps ∧ (layoverBase p s).pins = p ∧
    (layoverBase p s).scan = s.scan ∧ (layoverBase p s).pending = s.pending := by
  obtain ⟨hscan, -, hst, hpins, hpend⟩ := completed_scan p (s := countedAs 0 s) (.inr rfl)
  exact ⟨hst, hpins, hscan, hpend⟩

theorem sleepNoticed_second (h : completed p s = (countedAs 2 (layoverBase p s)).enterAsleep) :
    sleepNoticed (layoverBase p s) (completed p s) := by
  have hnoted := sleepNoticed_enterAsleep (countedAs 2 (layoverBase p s))
  rw [← h] at hnoted
  generalize layoverBase p s = u at hnoted ⊢
  exact hnoted

theorem fellAsleep_second (p : Pins) (s : State) :
    fellAsleep (layoverBase p s) (countedAs 2 (layoverBase p s)).fallAsleep p := by
  obtain ⟨-, hpins, -⟩ := layoverBase_frame p s
  have hfell := fellAsleep_fallAsleep (layoverBase p s)
  rw [hpins] at hfell
  exact hfell

theorem wakeLevel_second (p : Pins) (s : State) : (countedAs 2 (layoverBase p s)).wakeLevel = false ↔
    p.wakeIn = false ∧ (s.isCab = true → p.ri2 = true) := by
  obtain ⟨hst, hpins, -⟩ := layoverBase_frame p s
  have hcab : (countedAs 2 (layoverBase p s)).isCab = s.isCab := isCab_congr hst
  have hlevel : (countedAs 2 (layoverBase p s)).pins = p := hpins
  rw [wakeLevel_iff, hcab, hlevel]

theorem portKept_trans {u t : State} {a b : Bool} (h : portKept s u a) (h' : portKept u t b) : portKept s t b := by
  rw [portKept_iff] at h h' ⊢
  simp_all

theorem portKept_wake (s : State) (own : Bool) : portKept s (s.wake own) false := by
  rw [portKept_iff]
  simp [wake_lineUp]

theorem portKept_second (p : Pins) (s : State) : portKept s (countedAs 2 (layoverBase p s)).fallAsleep false := by
  have hdone : portKept s (layoverBase p s) (s.port.lineUp || s.roleAssigned) :=
    portKept_completed p (s := countedAs 0 s) (.inr rfl)
  obtain ⟨-, hkept, -⟩ := fellAsleep_second p s
  exact portKept_trans hdone hkept

end Second

section Asleep

variable {p : Pins} {s : State}

/-- The station once asleep, each block from what it was before the round (R179). -/
theorem fallenAsleep_line (h : p.pdHigh = true) : (countedAs 2 (layoverBase p s)).fallAsleep.line = { s.line with
    driver := .stopped, pdDrv := false, pdLift := false, lastMidHigh := true
    phase := .recovery, recBeat := 0, driveLeft := 0
    mode := if s.line.lowRun = 2 then .quiet else .continuous
    lowRun := 0, discards := 0, keepalive := none, takesPart := false, droveFrame := false
    roundCount := rxCount s.line.rx + 1, layoverRead := false, layoverCount := 2
    join := .asleep, heard := 0, backoff := 0 } := by
  obtain ⟨hline, -⟩ := fellAsleep_second p s
  have hbase := completed_line p (s := countedAs 0 s) (.inr rfl)
  rw [hline, layoverBase, hbase, h]
  rfl

theorem fallenAsleep_budget (p : Pins) (s : State) : (countedAs 2 (layoverBase p s)).fallAsleep.budget =
    { Budget.reset with
      stamp := (countedAs 2 (layoverBase p s)).fallAsleep.budget.stamp
      trip := s.budget.trip, lastI := s.budget.lastI } := by
  obtain ⟨-, -, -, -, hbud, -⟩ := fellAsleep_second p s
  obtain ⟨htrip, hlast⟩ := completed_budget_kept p (s := countedAs 0 s) (.inr rfl)
  have htrip' : (layoverBase p s).budget.trip = s.budget.trip := htrip
  have hlast' : (layoverBase p s).budget.lastI = s.budget.lastI := hlast
  rw [hbud, htrip', hlast']

theorem fallenAsleep_ceil (p : Pins) (s : State) : (countedAs 2 (layoverBase p s)).fallAsleep.ceil =
    if s.hasCeiling then ⟨0, .heldZero, p.eCut, false, false⟩ else { s.ceil with regenOk := false } := by
  obtain ⟨-, -, -, -, -, hceil, -⟩ := fellAsleep_second p s
  obtain ⟨hst, -⟩ := layoverBase_frame p s
  rw [hceil, hasCeiling_congr hst]
  cases hc : s.hasCeiling with
  | true => rfl
  | false =>
    have hkept : (layoverBase p s).ceil = s.ceil := completed_ceil_of_not p (s := countedAs 0 s) (.inr rfl) hc
    rw [hkept]

theorem fallenAsleep_feeder (ha : s.isAux = true) (k : Fin 8) :
    (((countedAs 2 (layoverBase p s)).fallAsleep.feed.get k).st.energized = false) ∧
    ((s.feed.get k).st.energized = false →
      ((countedAs 2 (layoverBase p s)).fallAsleep.feed.get k).st = (s.feed.get k).st) ∧
    ((countedAs 2 (layoverBase p s)).fallAsleep.feed.get k).enable = (s.feed.get k).enable := by
  obtain ⟨hst, -⟩ := layoverBase_frame p s
  have haux : (countedAs 2 (layoverBase p s)).isAux = s.isAux := isAux_congr hst
  have hfeed := drawCleared_feed (countedAs 2 (layoverBase p s)) (haux.trans ha) k
  rw [fallAsleep_feed, hfeed]
  exact turnedOff_of_sameAtRest (sameAtRest_completed p (s := countedAs 0 s) (.inr rfl) ha k) _

theorem fallenAsleep_feed_of_not (ha : s.isAux = false) (hw : ∀ w, s.arb.window = some w → w.feeder = none) :
    (countedAs 2 (layoverBase p s)).fallAsleep.feed = s.feed := by
  obtain ⟨-, -, -, -, -, -, -, hfeed, -⟩ := fellAsleep_second p s
  obtain ⟨hst, -⟩ := layoverBase_frame p s
  have hback := feedBack_of_no_feeder (s := layoverBase p s)
    fun w => completed_window_feeder p (s := countedAs 0 s) (.inr rfl) ha hw
  rw [hfeed (by rw [isAux_congr hst, ha]), hback]
  exact completed_feed_of_not_aux p (s := countedAs 0 s) (.inr rfl) ha

theorem fallenAsleep_pole (p : Pins) (hp : s.isPole = true) : (countedAs 2 (layoverBase p s)).fallAsleep.pole =
    { (layoverBase p s).pole with
      pos := { (layoverBase p s).pole.pos with ackable := false }
      neg := { (layoverBase p s).pole.neg with ackable := false }
      lowerHeard := false, heldSpeed := 0, paused := true } := by
  obtain ⟨-, -, -, -, -, -, -, -, -, hpole, -⟩ := fellAsleep_second p s
  obtain ⟨hst, -⟩ := layoverBase_frame p s
  rw [hpole, isPole_congr hst, hp, if_pos rfl]

theorem fallenAsleep_pole_of_not (p : Pins) (hp : s.isPole = false) :
    (countedAs 2 (layoverBase p s)).fallAsleep.pole = { s.pole with lowerHeard := false, heldSpeed := 0 } := by
  obtain ⟨-, -, -, -, -, -, -, -, -, hpole, -⟩ := fellAsleep_second p s
  obtain ⟨hst, -⟩ := layoverBase_frame p s
  have hkept : (layoverBase p s).pole = s.pole := completed_pole_of_not p (s := countedAs 0 s) (.inr rfl) hp
  rw [hpole, isPole_congr hst, hp, hkept, if_neg (by simp)]

theorem fallenAsleep_slate_of_not (p : Pins) (hc : s.isCab = false) :
    (countedAs 2 (layoverBase p s)).fallAsleep.slate = s.slate := by
  obtain ⟨hst, -⟩ := layoverBase_frame p s
  have hcab : (countedAs 2 (layoverBase p s)).isCab = s.isCab := isCab_congr hst
  rw [fallAsleep_slate, hcab, hc, if_neg (by simp)]
  exact completed_slate_of_not_cab p (s := countedAs 0 s) (.inr rfl) hc

theorem fallenAsleep_slate (p : Pins) (hc : s.isCab = true) :
    (countedAs 2 (layoverBase p s)).fallAsleep.slate = slateAsleep (layoverBase p s).slate := by
  obtain ⟨hst, -⟩ := layoverBase_frame p s
  have hcab : (countedAs 2 (layoverBase p s)).isCab = s.isCab := isCab_congr hst
  rw [fallAsleep_slate, hcab, hc, if_pos rfl]
  rfl

/-- No sound delay runs at a sleeping station (R176). -/
theorem slateAsleep_delay {x : Slate} {e : SlateEntry} (he : e ∈ (slateAsleep x).entries) (hr : e.st = .raised) :
    e.delay = none := by
  obtain ⟨y, -, rfl⟩ := List.mem_map.1 he
  by_cases hy : y.st = .raised
  · rw [if_pos hy]
  · rw [if_neg hy] at hr
    exact absurd hr hy

theorem fallenAsleep_wakeDet (p : Pins) (s : State) : (countedAs 2 (layoverBase p s)).fallAsleep.wakeDet =
    ⟨true, s.isPole && stowedAtEntry s.pole.pos s.scan.angPos.zone,
      s.isPole && stowedAtEntry s.pole.neg s.scan.angNeg.zone⟩ := by
  obtain ⟨hst, -, hscan, -⟩ := layoverBase_frame p s
  obtain ⟨-, -, ⟨-, hpos⟩, ⟨-, hneg⟩⟩ := completed_pole_kept p (s := countedAs 0 s) (.inr rfl)
  have hrole : (countedAs 2 (layoverBase p s)).isPole = s.isPole := isPole_congr hst
  have hscan' : (countedAs 2 (layoverBase p s)).scan = s.scan := hscan
  have hpos' := hpos s.scan.angPos.zone
  have hneg' := hneg s.scan.angNeg.zone
  rw [fallAsleep_wakeDet, hrole, hscan']
  exact congrArg₂ (fun a b => WakeDet.mk true (s.isPole && a) (s.isPole && b)) hpos' hneg'

end Asleep

/-- Settles O29: the view update of the round, the entry to ASLEEP, and the wake a level asks for at once. -/
theorem secondLayoverRoundEntersAsleep : Obligations.SecondLayoverRoundEntersAsleep := by
  intro i p s hrow hl hh hn stays stowed
  have hrow' : completionRow i p (countedAs 0 s) := hrow
  have henter : completed p s = (countedAs 2 (layoverBase p s)).enterAsleep := completed_second p hl hh hn
  have hlevel : (countedAs 2 (layoverBase p s)).wakeLevel = false ↔ stays := wakeLevel_second p s
  obtain ⟨hst, hpins, hscan, hpend⟩ := layoverBase_frame p s
  have hpins' : (countedAs 2 (layoverBase p s)).fallAsleep.pins = p := by
    have hkept : (countedAs 2 (layoverBase p s)).pins = p := hpins
    simpa using hkept
  have hasleep : stays → completed p s = (countedAs 2 (layoverBase p s)).fallAsleep := fun h =>
    henter.trans (enterAsleep_stays (hlevel.2 h))
  have hwoken : ¬stays → completed p s = (countedAs 2 (layoverBase p s)).fallAsleep.wake true := fun h =>
    henter.trans (enterAsleep_wakes (by simpa using fun hf => h (hlevel.1 hf)))
  refine ⟨⟨layoverBase p s, _, exec_completionRow hrow', exec_completionRow hrow, sleepNoticed_second henter,
    fun h => ?_, fun h => ⟨_, fellAsleep_second p s, ?_⟩⟩, fun h => ⟨_, exec_completionRow hrow, ?_⟩,
    fun h => ⟨_, exec_completionRow hrow, ?_⟩⟩
  · rw [hasleep h]
    exact fellAsleep_second p s
  · have hwake := woken_wake (countedAs 2 (layoverBase p s)).fallAsleep true
    rw [hpins'] at hwake
    rw [hwoken h]
    exact hwake
  · obtain ⟨-, hhigh, -⟩ := id hrow
    obtain ⟨-, -, -, -, -, -, -, -, hscan', -, -, -, hst', -, hpend'⟩ := fellAsleep_second p s
    obtain ⟨hcut, hmin, ⟨hpos, -⟩, ⟨hneg, -⟩⟩ := completed_pole_kept p (s := countedAs 0 s) (.inr rfl)
    have hline := fallenAsleep_line (s := s) hhigh
    rw [hasleep h]
    refine ⟨hline, portKept_second p s, fallAsleep_view _, fallAsleep_arb _, fallenAsleep_budget p s,
      fun hc => ?_, fun hc => ?_, fun ha => fallenAsleep_feeder ha, fun ha hw => fallenAsleep_feed_of_not ha hw,
      by rw [hscan', hscan], fun hp => ?_, fun hp => fallenAsleep_pole_of_not p hp,
      fun hc => fallenAsleep_slate_of_not p hc, fun hc => ?_, fallenAsleep_wakeDet p s, hst'.trans hst, hpins',
      hpend'.trans hpend⟩
    · rw [fallenAsleep_ceil, if_pos hc]
    · rw [fallenAsleep_ceil, if_neg (by simp [hc])]
    · rw [fallenAsleep_pole p hp]
      exact ⟨rfl, rfl, rfl, rfl, rfl, hcut, hmin, hpos, hneg⟩
    · rw [State.lamp, hline, fallenAsleep_slate p hc]
      exact ⟨rfl, rfl, rfl, rfl, by simp, fun e he hr => slateAsleep_delay he hr⟩
  · obtain ⟨hline, ⟨hsettled, -⟩, hdet, -, -, -, -, -, hview, -⟩ :=
      woken_wake (countedAs 2 (layoverBase p s)).fallAsleep true
    have hport := portKept_second p s
    have hquiet : (countedAs 2 (layoverBase p s)).fallAsleep.port.settings = s.port.settings := by rw [hport]
    rw [hwoken h, hline, hsettled, hdet, hview, hquiet]
    exact ⟨rfl, rfl, rfl, rfl, portKept_trans hport (portKept_wake _ true), rfl, rfl, fallAsleep_view _⟩

end Sys2Proof.Proofs
